-- ==== Sys2Proof/Word.lean ====
section
/-! DEFINITION. The widths of `00_scope.md` rule R8: every value of the block is an unsigned bit vector of one of these widths.
Nothing is signed and nothing is sign-extended (R8, R92). -/

namespace Sys2Proof

/-- A word: RawState, raw word, `SR`, `LATEST`, a queued word, the result of a primitive (R8, R61, R64). -/
abbrev Word := BitVec 32

/-- A byte: the result of a converter (R8, R48). -/
abbrev Byte := BitVec 8

/-- `pad`, one bit: which of the two controllers (R8, R94). -/
abbrev Pad := BitVec 1

/-- `button`, four bits: a ButtonIndex, or 12 to 15, to which the formulas apply unchanged (R8, R62, R94). -/
abbrev ButtonCode := BitVec 4

/-- A bit position 0 to 31 of a word: the result of `bitPosition` and the `target` operand (R8, R77). -/
abbrev Position := BitVec 5

/-- `PHASE`, six bits, the fields `L` (5), `K` (4:1), `P` (0) (R15). -/
abbrev Phase := BitVec 6

/-- One sample: bit 0 is pad 0's line, bit 1 pad 1's (R19, R82). -/
abbrev Sample := BitVec 2

end Sys2Proof
end

