-- ==== Sys2Proof/Config.lean ====
section
/-! DEFINITION. What is fixed for one machine (the parameters of `00_scope.md` rule R6), what the outside world can present to
the block (events, R11, R29, R209), and the one free value of the model, the event that comes next once no event is listed (R53). -/

namespace Sys2Proof

/-- ButtonIndex, the fixed canonical ordering of the twelve buttons (R62). Its code is `ButtonIndex.code`. -/
inductive ButtonIndex where
  | buttonB | buttonY | select | start | up | down | left | right | buttonA | buttonX | leftShoulder | rightShoulder
deriving DecidableEq, Repr, Inhabited

/-- `FULL_POLICY`: what STROBE_PUSH does with a full queue (R6, R108). -/
inductive FullPolicy where
  /-- The Sequencer waits at `PHASE` 31 until there is room. -/
  | stall
  /-- The new word is discarded and the cycle restarts. -/
  | dropNew
deriving DecidableEq, Repr, Inhabited

/-- `SS_SRC[0..3]`: the source buttons of Button0 to Button3 of the single-stick byte (R68, R155). -/
structure SsSrc where
  button0 : ButtonIndex
  button1 : ButtonIndex
  button2 : ButtonIndex
  button3 : ButtonIndex
deriving DecidableEq, Repr, Inhabited

/-- The parameters of the step relation (R6). They are configuration: no step changes them. The three handles are opaque
identities of the caller's resources, read by no rule (DESIGN CHOICE, log 13: numbers). `DATA_BASE`, `CLK_BASE` and
`CLOCK_PERIOD` are written by initialisation steps and stand in the configuration registers (R27, R206). `FIRE_SRC` is any
ButtonIndex (DESIGN CHOICE, log 27). -/
structure Params where
  fifoDepth : Nat
  fullPolicy : FullPolicy
  ssSrc : SsSrc
  fireSrc : ButtonIndex
  seqHandle : Nat
  irqHandle : Nat
  smId : Nat
deriving DecidableEq, Repr, Inhabited

/-- The defaults of R6: depth 4, `stall`, (B, A, Y, X), B. DESIGN CHOICE (log 13): the handles are 0. -/
def Params.default : Params where
  fifoDepth := 4
  fullPolicy := .stall
  ssSrc := { button0 := .buttonB, button1 := .buttonA, button2 := .buttonY, button3 := .buttonX }
  fireSrc := .buttonB
  seqHandle := 0
  irqHandle := 0
  smId := 0

/-- A period in seconds as a fraction (R27: a positive period, its encoding not in the source).
DESIGN CHOICE (log 11): rationals stand for the reals of R6. -/
structure Period where
  num : Nat
  den : Nat
deriving DecidableEq, Repr, Inhabited

/-- Initialisation steps 1 to 6 of R206, one constructor each; step 7 is ENABLE. -/
inductive InitStep where
  /-- Step 1: `PINCFG.DATA_BASE` is written, its two pins become inputs. -/
  | dataBase (pin : Nat)
  /-- Step 2: `PINCFG.CLK_BASE` is written, its two pins become outputs, driven 0. -/
  | clkBase (pin : Nat)
  /-- Step 3: `PERIOD` is written. -/
  | period (p : Period)
  /-- Step 4: the Sequencer's program is installed; `PHASE` = 32, `SR` = 0, FIFO empty. -/
  | program
  /-- Step 5: `LATEST <- 0`. -/
  | cell
  /-- Step 6: the Publisher is registered as handler of the line `IRQ_HANDLE`; `IRQ_EN <- 1`. -/
  | handler
deriving DecidableEq, Repr, Inhabited

/-- What can happen next to the block: one constructor for each way an agent moves (R11, R29, R186). -/
inductive Event where
  /-- One `tick`, with the level of the two data lines as a SETTLE step sees it (R19, R29). -/
  | tick (data : Sample)
  /-- The platform lets the Publisher move (R130, R179). -/
  | publisher
  /-- A Reader's request at the runtime surface: `fn`, `pad`, `state_in` (R29, R74). -/
  | fn (sel : BitVec 2) (pad : Pad) (stateIn : Word)
  /-- A Reader's request for a primitive: `prim`, `pad`, `button`, `target`, `state_in` (R29, R76). -/
  | prim (sel : BitVec 2) (pad : Pad) (button : ButtonCode) (target : Position) (stateIn : Word)
  /-- The Environment writes a bit to `CTRL.EN` (R75, R117, R119). -/
  | ctrl (bit : BitVec 1)
  /-- The Environment performs an initialisation step (R206). -/
  | init (step : InitStep)
  /-- The reset event (R29, R200). -/
  | rst
deriving DecidableEq, Repr, Inhabited

/-- FREE VALUE (log 2): the `n`-th event after those the state lists. R53 leaves the schedule and R19 leaves `DATA` open, so
nothing constrains it; a claim proved about `step` holds whatever it is. -/
opaque Config.freeEvent : Nat → Event

end Sys2Proof
end

