-- ==== Sys2Proof/Syntax.lean ====
section
/-! DEFINITION. The operations of the block as syntax: one constructor per row of `spec/opcode_table.json`, with the
operands the spec gives it (`30_encoding.md` rules R71 to R77). -/

namespace Sys2Proof

/-- The fifteen operations. The constructor's docstring names the row, its format and its rule. -/
inductive Instr where
  /-- LATCH, SEQ `10000p`; `p` = 0 is LATCH.0, `p` = 1 is LATCH.1 (R103). -/
  | latch (p : BitVec 1)
  /-- SETTLE `k`, SEQ `0kkkk0` (R104). Its operand `DATA` is an input port (R19), read from the state. -/
  | settle (k : BitVec 4)
  /-- STROBE `k`, SEQ `0kkkk1`, `k` not 15 (R105). -/
  | strobe (k : BitVec 4)
  /-- STROBE_PUSH, SEQ `011111` (R107, R108). -/
  | strobePush
  /-- ENABLE, pseudo-format CTRL: 1 is written to `CTRL.EN` (R117). -/
  | enable
  /-- ENTER, pseudo-format ENTRY: the Publisher's invocation begins (R133). -/
  | enter
  /-- TAKE, PUB with `PENDING` = 1 (R131). -/
  | take
  /-- RETURN, PUB with `PENDING` = 0 (R134). -/
  | ret
  /-- `currentState()`, FN `00` (R145). -/
  | currentState
  /-- `toSingleStick(state, pad)`, FN `01` (R154). -/
  | toSingleStick (stateIn : Word) (pad : Pad)
  /-- `toDualLeft(state, pad)`, FN `10` (R158). -/
  | toDualLeft (stateIn : Word) (pad : Pad)
  /-- `toDualRight(state, pad)`, FN `11` (R161). -/
  | toDualRight (stateIn : Word) (pad : Pad)
  /-- `bitPosition(pad, button)`, PRIM `00` (R86). -/
  | bitPosition (pad : Pad) (button : ButtonCode)
  /-- `bitMask(pad, button)`, PRIM `01` (R88). -/
  | bitMask (pad : Pad) (button : ButtonCode)
  /-- `extractAndRelocate(state, pad, button, target)`, PRIM `10` (R90). -/
  | extractAndRelocate (stateIn : Word) (pad : Pad) (button : ButtonCode) (target : Position)
deriving DecidableEq, Repr, Inhabited

end Sys2Proof
end

