-- ==== Sys2Proof/WellFormed.lean ====
section
/-! DEFINITION. What makes an operation, and a set of parameters, well formed. -/

namespace Sys2Proof

/-- An operation is well formed when some selector value stands for it. Only STROBE 15 is not: `PHASE` 31 is STROBE_PUSH
(R73, R105). Every other operand takes every value of its width (R94: `button` 12 to 15 included). -/
def Instr.wf : Instr → Bool
  | .latch _ => true
  | .settle _ => true
  | .strobe k => k != 15
  | .strobePush => true
  | .enable => true
  | .enter => true
  | .take => true
  | .ret => true
  | .currentState => true
  | .toSingleStick _ _ => true
  | .toDualLeft _ _ => true
  | .toDualRight _ _ => true
  | .bitPosition _ _ => true
  | .bitMask _ _ => true
  | .extractAndRelocate _ _ _ _ => true

/-- The four directions, none of which may be a source of Button0 to Button3 (R155). -/
def ButtonIndex.isDirection : ButtonIndex → Bool
  | .up => true
  | .down => true
  | .left => true
  | .right => true
  | .buttonB => false
  | .buttonY => false
  | .select => false
  | .start => false
  | .buttonA => false
  | .buttonX => false
  | .leftShoulder => false
  | .rightShoulder => false

/-- The four sources of Button0 to Button3 in order (R155). -/
def SsSrc.toList (s : SsSrc) : List ButtonIndex := [s.button0, s.button1, s.button2, s.button3]

/-- "they are four distinct buttons, none of them Up, Down, Left or Right" (R155). -/
def SsSrc.admissible (s : SsSrc) : Bool :=
  decide s.toList.Nodup && s.toList.all (fun src => !src.isDirection)

/-- Parameters of a real block: `FIFO_DEPTH >= 1` (R6) and admissible single-stick sources (R155). DESIGN CHOICE (log 27): any
ButtonIndex may be `FIRE_SRC`, a direction included, since R6 gives only its type. -/
def Params.wf (p : Params) : Bool := decide (1 ≤ p.fifoDepth) && p.ssSrc.admissible

end Sys2Proof
end

