-- ==== Sys2Proof/Decode.lean ====
section
/-! DEFINITION. Selectors (`30_encoding.md` rules R71 to R78), the decoder from a selector to an operation, total and rejecting
by name, the encoder back, and the numbering of a request as one number. Nothing is fetched from memory in this hardware (R71):
a selector is the set of signals that picks an operation at one of the block's interfaces. -/

namespace Sys2Proof

/-- The six formats: SEQ, PUB, FN and PRIM (R71) and the two pseudo-formats CTRL and ENTRY (R75). -/
inductive Format where
  | seq | ctrl | entry | pub | fn | prim
deriving DecidableEq, Repr, Inhabited

/-- The signals of one selection: the selector bits of a format and the operand ports beside them (R71, R29). -/
inductive Selector where
  /-- `PHASE` (R73). -/
  | seq (phase : Phase)
  /-- The bit written to `CTRL.EN` (R75). -/
  | ctrl (en : BitVec 1)
  /-- The two bits `IRQ` (1) and `PUB_ACTIVE` (0) (R75). -/
  | entry (irqPub : BitVec 2)
  /-- `PENDING`, inside an invocation (R75). -/
  | pub (pending : BitVec 1)
  /-- `fn`, `pad`, `state_in` (R74). -/
  | fn (sel : BitVec 2) (pad : Pad) (stateIn : Word)
  /-- `prim`, `pad`, `button`, `target`, `state_in` (R76). -/
  | prim (sel : BitVec 2) (pad : Pad) (button : ButtonCode) (target : Position) (stateIn : Word)
deriving DecidableEq, Repr, Inhabited

/-- Why a selector stands for no operation. -/
inductive Reject where
  /-- `PHASE` 34 to 63 (R72, R73). -/
  | reservedPhase
  /-- A write of 0 to `CTRL.EN` (R75, R119). -/
  | disable
  /-- The entry signals are not `10`: no invocation begins (R75). -/
  | noEntry
  /-- `prim = 11` (R76, R78). -/
  | reservedPrim
  /-- A number that is no request of this model's numbering (DESIGN CHOICE, log 7). -/
  | noRequest
deriving DecidableEq, Repr, Inhabited

/-- `{L, K, P}` as six bits (R15). -/
def phaseWord (l : BitVec 1) (k : BitVec 4) (p : BitVec 1) : Phase := (l ++ k) ++ p

/-- Field `L`, `PHASE[5]` (R15). -/
def phaseL (t : Phase) : BitVec 1 := t.extractLsb' 5 1

/-- Field `K`, `PHASE[4:1]` (R15). -/
def phaseK (t : Phase) : BitVec 4 := t.extractLsb' 1 4

/-- Field `P`, `PHASE[0]` (R15). -/
def phaseP (t : Phase) : BitVec 1 := t.extractLsb' 0 1

/-- The SEQ opcode map (R73); the more specific pattern, STROBE_PUSH, is matched before STROBE. -/
def decodeSeq (t : Phase) : Except Reject Instr :=
  if phaseL t = 1 then
    if phaseK t = 0 then .ok (.latch (phaseP t)) else .error .reservedPhase
  else if phaseP t = 0 then .ok (.settle (phaseK t))
  else if phaseK t = 15 then .ok .strobePush
  else .ok (.strobe (phaseK t))

/-- The FN opcode map (R74); no value is reserved. -/
def decodeFn (sel : BitVec 2) (pad : Pad) (stateIn : Word) : Instr :=
  if sel = 0 then .currentState
  else if sel = 1 then .toSingleStick stateIn pad
  else if sel = 2 then .toDualLeft stateIn pad
  else .toDualRight stateIn pad

/-- The PRIM opcode map (R76); `11` is reserved. -/
def decodePrim (sel : BitVec 2) (pad : Pad) (button : ButtonCode) (target : Position) (stateIn : Word) :
    Except Reject Instr :=
  if sel = 0 then .ok (.bitPosition pad button)
  else if sel = 1 then .ok (.bitMask pad button)
  else if sel = 2 then .ok (.extractAndRelocate stateIn pad button target)
  else .error .reservedPrim

/-- The operation a selector stands for, or the name of the reason it stands for none (R73 to R78). -/
def decode : Selector → Except Reject Instr
  | .seq t => decodeSeq t
  | .ctrl en => if en = 1 then .ok .enable else .error .disable
  | .entry irqPub => if irqPub = 2 then .ok .enter else .error .noEntry
  | .pub pending => if pending = 1 then .ok .take else .ok .ret
  | .fn sel pad stateIn => .ok (decodeFn sel pad stateIn)
  | .prim sel pad button target stateIn => decodePrim sel pad button target stateIn

/-- The selector of an operation, written from the patterns of R73 to R76. Operand ports the operation does not use are 0. -/
def encode : Instr → Selector
  | .latch p => .seq (phaseWord 1 0 p)
  | .settle k => .seq (phaseWord 0 k 0)
  | .strobe k => .seq (phaseWord 0 k 1)
  | .strobePush => .seq (phaseWord 0 15 1)
  | .enable => .ctrl 1
  | .enter => .entry 2
  | .take => .pub 1
  | .ret => .pub 0
  | .currentState => .fn 0 0 0
  | .toSingleStick stateIn pad => .fn 1 pad stateIn
  | .toDualLeft stateIn pad => .fn 2 pad stateIn
  | .toDualRight stateIn pad => .fn 3 pad stateIn
  | .bitPosition pad button => .prim 0 pad button 0 0
  | .bitMask pad button => .prim 1 pad button 0 0
  | .extractAndRelocate stateIn pad button target => .prim 2 pad button target stateIn

/-- The format a selector belongs to. -/
def Selector.format : Selector → Format
  | .seq _ => .seq
  | .ctrl _ => .ctrl
  | .entry _ => .entry
  | .pub _ => .pub
  | .fn _ _ _ => .fn
  | .prim _ _ _ _ _ => .prim

/-- The selector's own bits as a number, numbered as `spec/opcode_table.json` numbers them; operand ports are not among them. -/
def Selector.bits : Selector → Nat
  | .seq t => t.toNat
  | .ctrl en => en.toNat
  | .entry irqPub => irqPub.toNat
  | .pub pending => pending.toNat
  | .fn sel _ _ => sel.toNat
  | .prim sel _ _ _ _ => sel.toNat

/-- One row of `spec/opcode_table.json`: mnemonic, format, mask and match. -/
structure OpcodeRow where
  mnemonic : String
  format : Format
  mask : Nat
  pattern : Nat
deriving DecidableEq, Repr, Inhabited

/-- The table, row for row, with STROBE_PUSH before STROBE so that the first match is the more specific one (R73). -/
def opcodeTable : List OpcodeRow :=
  [ ⟨"LATCH", .seq, 0x3E, 0x20⟩,
    ⟨"SETTLE", .seq, 0x21, 0x00⟩,
    ⟨"STROBE_PUSH", .seq, 0x3F, 0x1F⟩,
    ⟨"STROBE", .seq, 0x21, 0x01⟩,
    ⟨"ENABLE", .ctrl, 0x1, 0x1⟩,
    ⟨"ENTER", .entry, 0x3, 0x2⟩,
    ⟨"TAKE", .pub, 0x1, 0x1⟩,
    ⟨"RETURN", .pub, 0x1, 0x0⟩,
    ⟨"currentState", .fn, 0x3, 0x0⟩,
    ⟨"toSingleStick", .fn, 0x3, 0x1⟩,
    ⟨"toDualLeft", .fn, 0x3, 0x2⟩,
    ⟨"toDualRight", .fn, 0x3, 0x3⟩,
    ⟨"bitPosition", .prim, 0x3, 0x0⟩,
    ⟨"bitMask", .prim, 0x3, 0x1⟩,
    ⟨"extractAndRelocate", .prim, 0x3, 0x2⟩ ]

/-- Does a row's pattern match a selector? -/
def OpcodeRow.accepts (r : OpcodeRow) (s : Selector) : Bool :=
  decide (r.format = s.format) && (s.bits &&& r.mask == r.pattern)

/-- The table's mnemonic of an operation, letter for letter. -/
def Instr.mnemonic : Instr → String
  | .latch _ => "LATCH"
  | .settle _ => "SETTLE"
  | .strobe _ => "STROBE"
  | .strobePush => "STROBE_PUSH"
  | .enable => "ENABLE"
  | .enter => "ENTER"
  | .take => "TAKE"
  | .ret => "RETURN"
  | .currentState => "currentState"
  | .toSingleStick _ _ => "toSingleStick"
  | .toDualLeft _ _ => "toDualLeft"
  | .toDualRight _ _ => "toDualRight"
  | .bitPosition _ _ => "bitPosition"
  | .bitMask _ _ => "bitMask"
  | .extractAndRelocate _ _ _ _ => "extractAndRelocate"

/-- DESIGN CHOICE (log 7): a request numbered as one number. Bits 7:0 hold the selector, unused bits of them 0; bits 10:8 the
format, 0 to 5 in the order SEQ, CTRL, ENTRY, PUB, FN, PRIM; bit 16 `pad`; bits 20:17 `button`; bits 25:21 `target`; bits 63:32
`state_in`. The spec has no such word (R71); a bare selector byte therefore reads as a `PHASE`, the one selector that plays the
part of a program counter (R15). -/
def Selector.ofNat (w : Nat) : Option Selector :=
  let sel := w % 256
  let pad := BitVec.ofNat 1 (w / 2 ^ 16)
  let button := BitVec.ofNat 4 (w / 2 ^ 17)
  let target := BitVec.ofNat 5 (w / 2 ^ 21)
  let stateIn := BitVec.ofNat 32 (w / 2 ^ 32)
  match w / 256 % 8 with
  | 0 => if sel < 64 then some (.seq (BitVec.ofNat 6 sel)) else none
  | 1 => if sel < 2 then some (.ctrl (BitVec.ofNat 1 sel)) else none
  | 2 => if sel < 4 then some (.entry (BitVec.ofNat 2 sel)) else none
  | 3 => if sel < 2 then some (.pub (BitVec.ofNat 1 sel)) else none
  | 4 => if sel < 4 then some (.fn (BitVec.ofNat 2 sel) pad stateIn) else none
  | 5 => if sel < 4 then some (.prim (BitVec.ofNat 2 sel) pad button target stateIn) else none
  | _ => none

/-- The decoder on a number, total, rejecting by name. -/
def decodeNat (w : Nat) : Except Reject Instr :=
  match Selector.ofNat w with
  | some s => decode s
  | none => .error .noRequest

/-- The operation the decoder reads from the low `nbits` bits of `w`, numbered as `spec/opcode_table.json` numbers them; every
bit above is 0. -/
def decodeTableWord (nbits w : Nat) : Option Instr :=
  match decodeNat (w % 2 ^ nbits) with
  | .ok i => if i.wf then some i else none
  | .error _ => none

end Sys2Proof
end

