-- ==== Sys2Proof/Machine/State.lean ====
section
/-! DEFINITION. The state of the block as plain data: the elements of `10_state.md` rule R13, the configuration registers of
R27, the ports of R29 that a step reads or drives, the parameters of R6, and the schedule still to come (R53). -/

namespace Sys2Proof.Machine

/-- The reasons to stop with a fault: none. "No runtime error kind is raised by this core" (R176), so the type has no
constructor and no step can answer with one. Safe (log 15). -/
inductive Fault where
deriving DecidableEq, Repr

/-- The reasons to refuse a step (R178 and the rules named). Every one is safe: the model says nothing of the run. -/
inductive Refusal where
  /-- An operation without a meaning yet; raised by `exec`'s refused arms only. Safe. -/
  | notModelled (mnemonic : String)
  /-- `exec` was asked for an operation its selector does not select in this state (R73, R75, R186, R193). `step` decodes the
  selector first and never raises it. Safe (log 10). -/
  | notSelected
  /-- Any step of a state with `PHASE` 34 to 63 (R72, R178). Safe (log 21). -/
  | reservedPhase
  /-- A primitive request with `prim = 11` (R78, R178). Safe (log 21). -/
  | reservedPrim
  /-- A write of 0 to `CTRL.EN` (R119, R178). Safe (log 20). -/
  | disable
  /-- A second ENABLE while `EN = 1` (R119, R178). Safe (log 20). -/
  | secondEnable
  /-- An ENABLE before initialisation steps 1 to 6 are done (R207, R178). Safe (log 6). -/
  | enableBeforeInit
  /-- An ENABLE with a configuration whose four pins are not distinct (R50, R178). Safe (log 12). -/
  | pinsNotDistinct
  /-- An ENABLE from a state that is not the reset state but for `IRQ_EN` and the configuration (R117). Safe (log 26). -/
  | enableNotClean
  /-- An initialisation step while `EN = 1` (R27, R207, R217, R178). Safe (log 17). -/
  | configWhileEnabled
  /-- Initialisation step 6 before step 5 (R206). Safe (log 17). -/
  | handlerBeforeCell
  /-- A write of a period that is not positive (R27). Safe (log 11). -/
  | periodNotPositive
  /-- The reset event while `EN = 1` (R200, R119). Safe (log 16). -/
  | resetWhileEnabled
deriving DecidableEq, Repr

/-- The configuration registers `PINCFG` and `PERIOD` (R27); widths and encodings are not in the source (log 11, log 12). -/
structure ConfigRegs where
  dataBase : Nat
  clkBase : Nat
  period : Period
deriving DecidableEq, Repr

/-- Which of initialisation steps 1 to 5 of R206 are done; ENABLE reads them (R207). Step 6 shows as `IRQ_EN`. The bits are the
model's reading of "before steps 1 to 6 of rule R206 are done" (DEDUCED, log 6). -/
structure InitDone where
  dataBase : Bool
  clkBase : Bool
  period : Bool
  program : Bool
  cell : Bool
deriving DecidableEq, Repr

/-- The port `result` of R29: 32 bits for `fn` 0, 8 bits for `fn` 1 to 3; `silent` before the first answer (log 4). -/
inductive FnResult where
  | silent
  | word (w : Word)
  | byte (b : Byte)
deriving DecidableEq, Repr

/-- The port `prim_result` of R29: 5 bits for `bitPosition`, 32 otherwise; `silent` before the first answer (log 4). -/
inductive PrimResult where
  | silent
  | index (p : Position)
  | word (w : Word)
deriving DecidableEq, Repr

/-- The whole machine. -/
structure State where
  /-- `CTRL.EN` (R14). -/
  en : Bool
  /-- `PHASE` (R15). -/
  phase : Phase
  /-- `SR` (R16). -/
  sr : Word
  /-- The FIFO of raw words, head first (R21). -/
  fifo : List Word
  /-- `LATEST`, the latest-value cell (R24). -/
  latest : Word
  /-- `PUB_ACTIVE` (R25). -/
  pubActive : Bool
  /-- `CTRL.IRQ_EN` (R26). -/
  irqEn : Bool
  /-- `PINCFG` and `PERIOD` (R27). -/
  config : ConfigRegs
  /-- Progress of initialisation (R206, R207). -/
  initDone : InitDone
  /-- The input port `DATA` (R19, R30). -/
  data : Sample
  /-- The output port `result` (R29), as last driven. -/
  result : FnResult
  /-- The output port `prim_result` (R29), as last driven. -/
  primResult : PrimResult
  /-- The parameters of R6, constant (log 1). -/
  params : Params
  /-- The model's own: the events still to come, the next one first (R53, log 2). -/
  sched : List Event
  /-- The model's own: how many free events have been taken since `sched` ran out (R53, log 2). -/
  draws : Nat
deriving DecidableEq, Repr

/-- The values R33 leaves unspecified after reset. DESIGN CHOICE (log 5): pins 0, and the spec's default period 1 ms / 34. -/
def ConfigRegs.reset : ConfigRegs where
  dataBase := 0
  clkBase := 0
  period := { num := 1, den := 34000 }

/-- No initialisation step is done after reset (R206 starts from the reset state). -/
def InitDone.reset : InitDone where
  dataBase := false
  clkBase := false
  period := false
  program := false
  cell := false

/-- The machine right after reset, for given parameters: the elements of R13 as R33 gives them; ports and the model's own fields
as log 25 says. -/
def State.resetWith (p : Params) : State where
  en := false
  phase := 32
  sr := 0
  fifo := []
  latest := 0
  pubActive := false
  irqEn := false
  config := ConfigRegs.reset
  initDone := InitDone.reset
  data := 3
  result := .silent
  primResult := .silent
  params := p
  sched := []
  draws := 0

/-- The machine right after reset (R33) with the default parameters of R6 (log 1). -/
def State.reset : State := State.resetWith Params.default

end Sys2Proof.Machine
end

