-- ==== Sys2Proof/Machine/Operands.lean ====
section
/-! DEFINITION. Every operand form of `30_encoding.md` rule R77 and the pure functions over operands: the index, the sample
entering the shift register, the Bit-Position Algebra (R86 to R91) and the three converters (R153 to R163). -/

namespace Sys2Proof.Machine

/-- The code of a ButtonIndex, 0 to 11 in the order B, Y, Select, Start, Up, Down, Left, Right, A, X, LeftShoulder,
RightShoulder (R62). -/
def buttonCode : ButtonIndex → ButtonCode
  | .buttonB => 0
  | .buttonY => 1
  | .select => 2
  | .start => 3
  | .up => 4
  | .down => 5
  | .left => 6
  | .right => 7
  | .buttonA => 8
  | .buttonX => 9
  | .leftShoulder => 10
  | .rightShoulder => 11

/-- Operand form (a): the bit position `(button << 1) + pad`, five bits (R77, R86). -/
def bitPos (pad : Pad) (button : ButtonCode) : Position := (button.setWidth 5 <<< 1) + pad.setWidth 5

/-- `1 << bitPosition(pad, button)`, a 32-bit word (R88). -/
def bitMaskOf (pad : Pad) (button : ButtonCode) : Word := 1#32 <<< (bitPos pad button).toNat

/-- "isolate the single bit at `bitPosition(pad, button)` ... then relocate it" (R90). -/
def relocate (stateIn : Word) (pad : Pad) (button : ButtonCode) (t : Position) : Word :=
  let s := bitPos pad button
  let m := stateIn &&& bitMaskOf pad button
  if s < t then m <<< (t.toNat - s.toNat)
  else if t < s then m >>> (s.toNat - t.toNat)
  else m

/-- `ER` of R81 with a named source button. -/
def relocateButton (stateIn : Word) (pad : Pad) (button : ButtonIndex) (t : Position) : Word :=
  relocate stateIn pad (buttonCode button) t

/-- Operand form (b): the sample enters `SR` at bits 31:30, `DATA[1]` in bit 31, after a right shift by two (R77, R104). -/
def shiftInSample (sr : Word) (d : Sample) : Word := (d.setWidth 32 <<< 30) ||| (sr >>> 2)

/-- `toSingleStick` (R154): bits 7 to 0 are Button3, Button2, Button1, Button0, Up, Down, Left, Right. -/
def singleStick (src : SsSrc) (stateIn : Word) (pad : Pad) : Byte :=
  let acc := relocateButton stateIn pad .right 0
    ||| relocateButton stateIn pad .left 1
    ||| relocateButton stateIn pad .down 2
    ||| relocateButton stateIn pad .up 3
    ||| relocateButton stateIn pad src.button0 4
    ||| relocateButton stateIn pad src.button1 5
    ||| relocateButton stateIn pad src.button2 6
    ||| relocateButton stateIn pad src.button3 7
  acc.extractLsb' 0 8

/-- The complement-and-mask step shared by both dual-stick converters (R159): 32-bit complement, then bits 7:0. -/
def complementAndMask (acc : Word) : Byte := (~~~acc &&& 0xFF#32).extractLsb' 0 8

/-- `toDualLeft` (R158): bits 4 to 0 are Fire, Up, Down, Right, Left, complemented. -/
def dualLeft (fire : ButtonIndex) (stateIn : Word) (pad : Pad) : Byte :=
  complementAndMask
    (relocateButton stateIn pad .left 0
      ||| relocateButton stateIn pad .right 1
      ||| relocateButton stateIn pad .down 2
      ||| relocateButton stateIn pad .up 3
      ||| relocateButton stateIn pad fire 4)

/-- `toDualRight` (R161): bits 4 to 0 are Left, Right, Down, Up, Fire, complemented. -/
def dualRight (fire : ButtonIndex) (stateIn : Word) (pad : Pad) : Byte :=
  complementAndMask
    (relocateButton stateIn pad fire 0
      ||| relocateButton stateIn pad .up 1
      ||| relocateButton stateIn pad .down 2
      ||| relocateButton stateIn pad .right 3
      ||| relocateButton stateIn pad .left 4)

end Sys2Proof.Machine
end

