-- ==== Sys2Proof/Machine/Flags.lean ====
section
/-! DEFINITION. The flags and outputs, all functions of the state: `PENDING`, `FULL`, `IRQ`, `CLK`, `LATCH` and the pins
(`10_state.md` rules R17, R18, R22, R23, R30, R31; `60_exceptions.md` rule R179). No operation sets a flag directly. -/

namespace Sys2Proof.Machine

/-- `PENDING = (FIFO.len > 0)` (R22). -/
def State.pending (s : State) : Bool := decide (0 < s.fifo.length)

/-- `FULL = (FIFO.len = FIFO_DEPTH)` (R23). -/
def State.full (s : State) : Bool := decide (s.fifo.length = s.params.fifoDepth)

/-- `IRQ = PENDING & IRQ_EN`, a level (R22, R179, R180). -/
def State.irq (s : State) : Bool := s.pending && s.irqEn

/-- `CLK = EN & ~PHASE[5] & PHASE[0]` (R17). -/
def State.clk (s : State) : Bool := s.en && (phaseL s.phase == 0) && (phaseP s.phase == 1)

/-- `LATCH = EN & PHASE[5]` (R18). -/
def State.latch (s : State) : Bool := s.en && (phaseL s.phase == 1)

/-- What the block does at a pin of the platform. -/
inductive PinRole where
  /-- An input of the block: the line of pad 0 or pad 1 (R30). -/
  | dataLine (pad : Pad)
  /-- An output of the block, with its level (R31). -/
  | driven (level : Bool)
  /-- Not the block's (R50: the block uses exactly four pins). -/
  | none
deriving DecidableEq, Repr

/-- The role of a pin once steps 1 and 2 of R206 have made the pins inputs and outputs: `DATA_BASE + p` is the line of pad `p`
(R30), `CLK_BASE` is `CLK` and `CLK_BASE + 1` is `LATCH` (R31). DESIGN CHOICE (log 12): of a pin that both pairs claim, which ENABLE
refuses (R50), the role before that refusal is the output's. -/
def State.pinRole (s : State) (pin : Nat) : PinRole :=
  if s.initDone.clkBase && (pin == s.config.clkBase) then .driven s.clk
  else if s.initDone.clkBase && (pin == s.config.clkBase + 1) then .driven s.latch
  else if s.initDone.dataBase && (pin == s.config.dataBase) then .dataLine 0
  else if s.initDone.dataBase && (pin == s.config.dataBase + 1) then .dataLine 1
  else .none

/-- Are the four pins `DATA_BASE`, `DATA_BASE + 1`, `CLK_BASE`, `CLK_BASE + 1` distinct (R50)? -/
def State.pinsDistinct (s : State) : Bool :=
  (s.config.dataBase != s.config.clkBase) && (s.config.dataBase + 1 != s.config.clkBase)
    && (s.config.dataBase != s.config.clkBase + 1)

/-- Are initialisation steps 1 to 6 done (R206, R207)? Step 6 shows as `IRQ_EN`. -/
def State.initialised (s : State) : Bool :=
  s.initDone.dataBase && s.initDone.clkBase && s.initDone.period && s.initDone.program && s.initDone.cell && s.irqEn

/-- Are `PHASE`, `SR`, the FIFO, `LATEST` and `PUB_ACTIVE` at their reset values, as ENABLE requires (R117, R33)? -/
def State.cleanEntry (s : State) : Bool :=
  decide (s.phase = 32) && decide (s.sr = 0) && decide (s.fifo = []) && decide (s.latest = 0) && !s.pubActive

end Sys2Proof.Machine
end

