-- ==== Sys2Proof/Machine/Ops.lean ====
section
/-! DEFINITION. The named operations over the state: one write per element, the FIFO's push and pop, the successor of `PHASE`,
the interrupt's entry and return, the reset event and the initialisation steps. -/

namespace Sys2Proof.Machine

/-- Write `CTRL.EN` (R14). -/
def State.setEn (s : State) (v : Bool) : State := { s with en := v }

/-- Write `PHASE` (R15). -/
def State.setPhase (s : State) (v : Phase) : State := { s with phase := v }

/-- Write `SR` (R16). -/
def State.setSr (s : State) (v : Word) : State := { s with sr := v }

/-- Replace the queue's contents (R21). -/
def State.setFifo (s : State) (v : List Word) : State := { s with fifo := v }

/-- Write `LATEST`, all 32 bits at once (R45). -/
def State.setLatest (s : State) (v : Word) : State := { s with latest := v }

/-- Write `PUB_ACTIVE` (R25). -/
def State.setPubActive (s : State) (v : Bool) : State := { s with pubActive := v }

/-- Write `CTRL.IRQ_EN` (R26). -/
def State.setIrqEn (s : State) (v : Bool) : State := { s with irqEn := v }

/-- Write the configuration registers (R27). -/
def State.setConfig (s : State) (v : ConfigRegs) : State := { s with config := v }

/-- Record the progress of initialisation (R206). -/
def State.setInitDone (s : State) (v : InitDone) : State := { s with initDone := v }

/-- The level of the data lines (R19). -/
def State.setData (s : State) (v : Sample) : State := { s with data := v }

/-- Drive the port `result` (R29). -/
def State.setResult (s : State) (v : FnResult) : State := { s with result := v }

/-- Drive the port `prim_result` (R29). -/
def State.setPrimResult (s : State) (v : PrimResult) : State := { s with primResult := v }

/-- Replace the events still to come (log 2). -/
def State.setSched (s : State) (v : List Event) : State := { s with sched := v }

/-- Count the free events taken (log 2). -/
def State.setDraws (s : State) (v : Nat) : State := { s with draws := v }

/-- `next`: 32 to 33, 33 to 0, 31 to 32, otherwise one more (R15, R121). Reserved values are never advanced (R72). -/
def nextPhase (t : Phase) : Phase := if t = 33 then 0 else if t = 31 then 32 else t + 1

/-- `PHASE` moves to its successor (R100). -/
def State.advance (s : State) : State := s.setPhase (nextPhase s.phase)

/-- `FIFO.push(v)`: append at the tail (R43). -/
def State.pushWord (s : State) (v : Word) : State := s.setFifo (s.fifo ++ [v])

/-- `FIFO.pop()`: the head word and the state without it, or nothing when the queue is empty (R44). -/
def State.popWord (s : State) : Option (Word × State) :=
  match s.fifo with
  | [] => none
  | w :: rest => some (w, s.setFifo rest)

/-- Is there room for one more word (R43)? -/
def State.hasRoom (s : State) : Bool := decide (s.fifo.length < s.params.fifoDepth)

/-- Taking the interrupt, the block's only exception-like event: `PUB_ACTIVE <- 1`. "The block saves no state, switches no mode,
masks nothing and has no vector table" (R183). -/
def State.takeInterrupt (s : State) : State := s.setPubActive true

/-- Returning from it: `PUB_ACTIVE <- 0`; it "restores nothing, because ENTER saved nothing" (R185). -/
def State.returnFromInterrupt (s : State) : State := s.setPubActive false

/-- The reset event on the elements of R13 (R33, R200). Ports, parameters and the schedule are no elements of R13 and stay
(log 16). -/
def State.resetBlock (s : State) : State :=
  (((((((((s.setEn false).setPhase 32).setSr 0).setFifo []).setLatest 0).setPubActive false).setIrqEn false).setConfig
    ConfigRegs.reset).setInitDone InitDone.reset)

/-- Is a period positive (R27)? -/
def periodPositive (p : Period) : Bool := decide (0 < p.num) && decide (0 < p.den)

/-- Initialisation step 1: `PINCFG.DATA_BASE` is written (R206). -/
def State.initDataBase (s : State) (pin : Nat) : State :=
  (s.setConfig { s.config with dataBase := pin }).setInitDone { s.initDone with dataBase := true }

/-- Initialisation step 2: `PINCFG.CLK_BASE` is written (R206). -/
def State.initClkBase (s : State) (pin : Nat) : State :=
  (s.setConfig { s.config with clkBase := pin }).setInitDone { s.initDone with clkBase := true }

/-- Initialisation step 3: `PERIOD` is written (R206). -/
def State.initPeriod (s : State) (p : Period) : State :=
  (s.setConfig { s.config with period := p }).setInitDone { s.initDone with period := true }

/-- Initialisation step 4: the program is installed; `PHASE` = 32, `SR` = 0, FIFO empty (R206). -/
def State.initProgram (s : State) : State :=
  (((s.setPhase 32).setSr 0).setFifo []).setInitDone { s.initDone with program := true }

/-- Initialisation step 5: `LATEST <- 0` (R206). -/
def State.initCell (s : State) : State := (s.setLatest 0).setInitDone { s.initDone with cell := true }

/-- Initialisation step 6: the handler is registered and `IRQ_EN <- 1` (R206). -/
def State.initHandler (s : State) : State := s.setIrqEn true

end Sys2Proof.Machine
end

