-- ==== Sys2Proof/Machine/Publisher.lean ====
section
/-! DEFINITION. The Publisher's operations (`43_publisher.md` rules R131 to R134; entry and return, `60_exceptions.md` rules
R183 and R185). Outside its precondition an operation has no step (R186; log 10). -/

namespace Sys2Proof.Machine

/-- ENTER: enabled when `IRQ` = 1 and `PUB_ACTIVE` = 0 (R133); no nesting (R184). -/
def execEnter (s : State) : Host.Outcome State Fault Refusal :=
  if s.irq && !s.pubActive then .next s.takeInterrupt else .refused .notSelected

/-- TAKE: pop the head and write its 32-bit complement to `LATEST`, one atomic step, no mask (R131, R46; C1). -/
def execTake (s : State) : Host.Outcome State Fault Refusal :=
  if s.pubActive then
    match s.popWord with
    | some (w, t) => .next (t.setLatest (~~~w))
    | none => .refused .notSelected
  else .refused .notSelected

/-- RETURN: inside an invocation with the FIFO empty (R134). -/
def execRet (s : State) : Host.Outcome State Fault Refusal :=
  if s.pubActive && !s.pending then .next s.returnFromInterrupt else .refused .notSelected

end Sys2Proof.Machine
end

