-- ==== Sys2Proof/Machine/Reader.lean ====
section
/-! DEFINITION. A Reader's operations: the Accessor (`44_accessor.md` rule R145), the three converters (`45_converters.md`) and
the three primitives (`41_bit_position.md`). They have no precondition and write nothing but the answer on its port (R29, R186). -/

namespace Sys2Proof.Machine

/-- `currentState()`: the whole word `LATEST` (R145). -/
def execCurrentState (s : State) : Host.Outcome State Fault Refusal := .next (s.setResult (.word s.latest))

/-- `toSingleStick(state, pad)` (R154), with the machine's `SS_SRC` (R155). -/
def execToSingleStick (stateIn : Word) (pad : Pad) (s : State) : Host.Outcome State Fault Refusal :=
  .next (s.setResult (.byte (singleStick s.params.ssSrc stateIn pad)))

/-- `toDualLeft(state, pad)` (R158), with the machine's `FIRE_SRC`. -/
def execToDualLeft (stateIn : Word) (pad : Pad) (s : State) : Host.Outcome State Fault Refusal :=
  .next (s.setResult (.byte (dualLeft s.params.fireSrc stateIn pad)))

/-- `toDualRight(state, pad)` (R161), with the machine's `FIRE_SRC`. -/
def execToDualRight (stateIn : Word) (pad : Pad) (s : State) : Host.Outcome State Fault Refusal :=
  .next (s.setResult (.byte (dualRight s.params.fireSrc stateIn pad)))

/-- `bitPosition(pad, button)` (R86). -/
def execBitPosition (pad : Pad) (button : ButtonCode) (s : State) : Host.Outcome State Fault Refusal :=
  .next (s.setPrimResult (.index (bitPos pad button)))

/-- `bitMask(pad, button)` (R88). -/
def execBitMask (pad : Pad) (button : ButtonCode) (s : State) : Host.Outcome State Fault Refusal :=
  .next (s.setPrimResult (.word (bitMaskOf pad button)))

/-- `extractAndRelocate(state, pad, button, target)` (R90). -/
def execExtractAndRelocate (stateIn : Word) (pad : Pad) (button : ButtonCode) (target : Position) (s : State) :
    Host.Outcome State Fault Refusal :=
  .next (s.setPrimResult (.word (relocate stateIn pad button target)))

end Sys2Proof.Machine
end

