-- ==== Sys2Proof/Machine/Sequencer.lean ====
section
/-! DEFINITION. The Sequencer's operations (`42_sequencer.md` rules R103 to R108) and ENABLE (R117). -/

namespace Sys2Proof.Machine

/-- One Sequencer operation, selected by `PHASE` (R100). While `EN` = 0 a tick changes nothing (R118); an operation that
`PHASE` does not select has no step (R73, R186; log 10). -/
def State.onPhase (s : State) (selector : Phase) (effect : State → State) : Host.Outcome State Fault Refusal :=
  if s.en = false then .next s
  else if s.phase = selector then .next (effect s)
  else .refused .notSelected

/-- The effect of SETTLE (R104): the sample enters `SR`, `PHASE` moves on. -/
def State.settle (s : State) : State := (s.setSr (shiftInSample s.sr s.data)).advance

/-- The effect of STROBE_PUSH: with room, push `SR` and move on (R107); without, as `FULL_POLICY` says (R108). -/
def State.strobePush (s : State) : State :=
  if s.hasRoom then (s.pushWord s.sr).advance
  else
    match s.params.fullPolicy with
    | .stall => s
    | .dropNew => s.advance

/-- LATCH.0 and LATCH.1 (R103). -/
def execLatch (p : BitVec 1) (s : State) : Host.Outcome State Fault Refusal :=
  s.onPhase (phaseWord 1 0 p) State.advance

/-- SETTLE `k` (R104). -/
def execSettle (k : BitVec 4) (s : State) : Host.Outcome State Fault Refusal :=
  s.onPhase (phaseWord 0 k 0) State.settle

/-- STROBE `k`, `k` not 15 (R105); `PHASE` 31 selects STROBE_PUSH, so the ill-formed STROBE 15 is never selected (R73). -/
def execStrobe (k : BitVec 4) (s : State) : Host.Outcome State Fault Refusal :=
  if k = 15 then .refused .notSelected else s.onPhase (phaseWord 0 k 1) State.advance

/-- STROBE_PUSH (R107, R108). -/
def execStrobePush (s : State) : Host.Outcome State Fault Refusal :=
  s.onPhase (phaseWord 0 15 1) State.strobePush

/-- ENABLE (R117): `EN <- 1` from the clean, initialised, disabled state; refused by name otherwise (R119, R207, R50). -/
def execEnable (s : State) : Host.Outcome State Fault Refusal :=
  if s.en then .refused .secondEnable
  else if !s.initialised then .refused .enableBeforeInit
  else if !s.pinsDistinct then .refused .pinsNotDistinct
  else if !s.cleanEntry then .refused .enableNotClean
  else .next (s.setEn true)

end Sys2Proof.Machine
end

