-- ==== Sys2Proof/Machine/Dispatch.lean ====
section
/-! DEFINITION. One arm per row of the opcode table. -/

namespace Sys2Proof.Machine

def exec (i : Instr) (s : State) : Host.Outcome State Fault Refusal :=
  match i with
  | .latch p => Sys2Proof.Machine.execLatch p s
  | .settle k => Sys2Proof.Machine.execSettle k s
  | .strobe k => Sys2Proof.Machine.execStrobe k s
  | .strobePush => Sys2Proof.Machine.execStrobePush s
  | .enable => Sys2Proof.Machine.execEnable s
  | .enter => Sys2Proof.Machine.execEnter s
  | .take => Sys2Proof.Machine.execTake s
  | .ret => Sys2Proof.Machine.execRet s
  | .currentState => Sys2Proof.Machine.execCurrentState s
  | .toSingleStick stateIn pad => Sys2Proof.Machine.execToSingleStick stateIn pad s
  | .toDualLeft stateIn pad => Sys2Proof.Machine.execToDualLeft stateIn pad s
  | .toDualRight stateIn pad => Sys2Proof.Machine.execToDualRight stateIn pad s
  | .bitPosition pad button => Sys2Proof.Machine.execBitPosition pad button s
  | .bitMask pad button => Sys2Proof.Machine.execBitMask pad button s
  | .extractAndRelocate stateIn pad button target => Sys2Proof.Machine.execExtractAndRelocate stateIn pad button target s

end Sys2Proof.Machine
end

