-- ==== Sys2Proof/Machine/Environment.lean ====
section
/-! DEFINITION. The Environment's own steps that are no rows of the opcode table: the reset event (`70_reset_and_hazards.md` rule
R200) and initialisation steps 1 to 6 (R206). -/

namespace Sys2Proof.Machine

/-- The reset event: "never while a claim's run is in progress" (R200), so refused while `EN` = 1 (R119; log 16). -/
def resetEvent (s : State) : Host.Outcome State Fault Refusal :=
  if s.en then .refused .resetWhileEnabled else .next s.resetBlock

/-- One initialisation step (R206). While `EN` = 1 each is refused (R207, R217). Steps 1 to 5 come in any order and may be
repeated before ENABLE; step 6 must follow step 5 (log 17). -/
def initEvent (step : InitStep) (s : State) : Host.Outcome State Fault Refusal :=
  if s.en then .refused .configWhileEnabled
  else
    match step with
    | .dataBase pin => .next (s.initDataBase pin)
    | .clkBase pin => .next (s.initClkBase pin)
    | .period p => if periodPositive p then .next (s.initPeriod p) else .refused .periodNotPositive
    | .program => .next s.initProgram
    | .cell => .next s.initCell
    | .handler => if s.initDone.cell then .next s.initHandler else .refused .handlerBeforeCell

end Sys2Proof.Machine
end

