-- ==== Sys2Proof/Machine/Agents.lean ====
section
/-! DEFINITION. How the agents move (`00_scope.md` rule R11, `20_memory.md` rule R53): which event comes next, which selector it
presents, and what the machine does with it. -/

namespace Sys2Proof.Machine

/-- The next event: the first one listed, or, when none is, a free one (R53; log 2). -/
def State.nextEvent (s : State) : Event × State :=
  match s.sched with
  | e :: rest => (e, s.setSched rest)
  | [] => (Config.freeEvent s.draws, s.setDraws (s.draws + 1))

/-- An event's effect on the input ports: a tick brings the level of the data lines (R19). -/
def State.drive (s : State) : Event → State
  | .tick d => s.setData d
  | .publisher => s
  | .fn _ _ _ => s
  | .prim _ _ _ _ _ => s
  | .ctrl _ => s
  | .init _ => s
  | .rst => s

/-- The selector an event presents in a state, if it presents one. A tick presents `PHASE` while `EN` = 1 and selects nothing
otherwise (R73, R118). The Publisher presents `PENDING` inside an invocation and `{IRQ, PUB_ACTIVE}` when the request is up;
otherwise it "has no enabled step" (R75, R130, R201). -/
def State.presented (s : State) : Event → Option Selector
  | .tick _ => if s.en then some (.seq s.phase) else none
  | .publisher =>
    if s.pubActive then some (.pub (BitVec.ofBool s.pending))
    else if s.irq then some (.entry (BitVec.ofBool s.irq ++ BitVec.ofBool s.pubActive))
    else none
  | .fn sel pad stateIn => some (.fn sel pad stateIn)
  | .prim sel pad button target stateIn => some (.prim sel pad button target stateIn)
  | .ctrl b => some (.ctrl b)
  | .init _ => none
  | .rst => none

/-- The refusal for a selector that stands for no operation (R72, R78, R119). -/
def rejectReason : Reject → Refusal
  | .reservedPhase => .reservedPhase
  | .disable => .disable
  | .noEntry => .notSelected
  | .reservedPrim => .reservedPrim
  | .noRequest => .notSelected

/-- Decode the presented selector and execute the operation it stands for. With no selector nothing changes (R118, R201;
log 9). -/
def runSelected (sel : Option Selector) (s : State) : Host.Outcome State Fault Refusal :=
  match sel with
  | none => .next s
  | some x =>
    match decode x with
    | .ok i => exec i s
    | .error r => .refused (rejectReason r)

/-- What the machine does with an event, once its ports are driven. -/
def runEvent (e : Event) (s : State) : Host.Outcome State Fault Refusal :=
  match e with
  | .rst => resetEvent s
  | .init step => initEvent step s
  | .tick d => runSelected (s.presented (.tick d)) s
  | .publisher => runSelected (s.presented .publisher) s
  | .fn sel pad stateIn => runSelected (s.presented (.fn sel pad stateIn)) s
  | .prim sel pad button target stateIn => runSelected (s.presented (.prim sel pad button target stateIn)) s
  | .ctrl b => runSelected (s.presented (.ctrl b)) s

/-- Does the state hold a reserved `PHASE`, 34 to 63 (R72)? -/
def State.phaseReserved (s : State) : Bool := decide (34 ≤ s.phase.toNat)

/-- One atomic step of one agent: take the next event, drive the ports, run it (R10, R53). A state with a reserved `PHASE` is
refused, whichever agent would move (R72, R178; log 21). -/
def stepOnce (s : State) : Host.Outcome State Fault Refusal :=
  if s.phaseReserved then .refused .reservedPhase
  else runEvent s.nextEvent.1 (s.nextEvent.2.drive s.nextEvent.1)

/-- A queue with a word pending: the queue itself, or one word of zeros where it is empty. -/
def wordPending (q : List Word) : List Word :=
  match q with
  | [] => [0]
  | w :: rest => w :: rest

/-- The state in which the next step presents exactly the given selector (log 8). For SEQ, `PHASE` takes the value, `EN` = 1 and a
tick comes next. For a write of 1 to `CTRL.EN`, initialisation is done and the state clean (R117). For the Publisher, the request,
the invocation and the queue are as the selector says. A Reader's request is simply the next event. -/
def State.present (s : State) : Selector → State
  | .seq t => ((s.setEn true).setPhase t).setSched (.tick s.data :: s.sched)
  | .ctrl b =>
    if b = 1 then
      ((((((s.resetBlock.setConfig { s.config with clkBase := s.config.dataBase + 2 }).setInitDone
        { dataBase := true, clkBase := true, period := true, program := true, cell := true }).setIrqEn true)).setSched
        (.ctrl b :: s.sched)))
    else s.setSched (.ctrl b :: s.sched)
  | .entry x =>
    if x = 2 then
      (((s.setIrqEn true).setPubActive false).setFifo (wordPending s.fifo)).setSched (.publisher :: s.sched)
    else s
  | .pub p =>
    if p = 1 then ((s.setPubActive true).setFifo (wordPending s.fifo)).setSched (.publisher :: s.sched)
    else ((s.setPubActive true).setFifo []).setSched (.publisher :: s.sched)
  | .fn sel pad stateIn => s.setSched (.fn sel pad stateIn :: s.sched)
  | .prim sel pad button target stateIn => s.setSched (.prim sel pad button target stateIn :: s.sched)

/-- `present` for a request numbered as `Selector.ofNat` numbers it; a number that is no request leaves the state as it is. -/
def State.presentNat (s : State) (w : Nat) : State :=
  match Selector.ofNat w with
  | some sel => s.present sel
  | none => s

end Sys2Proof.Machine
end

