-- ==== Sys2Proof/Machine/Step.lean ====
section
/-! DEFINITION. One step of the machine: one atomic step of one agent (`20_memory.md` rule R53). -/

namespace Sys2Proof.Machine

/-- One step; all of it is `stepOnce` of `Machine/Agents.lean`. -/
def step (s : State) : Host.Outcome State Fault Refusal := stepOnce s

/-- `s` with the operation of `decodeTableWord nbits w` selected for the very next step (log 8). -/
def State.withFetchWord (s : State) (nbits w : Nat) : State := s.presentNat (w % 2 ^ nbits)

end Sys2Proof.Machine
end

