-- ==== Sys2Proof/Machine/Controllers.lean ====
section
/-! DEFINITION. The Environment's two controllers, as the named premise `REF_CONTROLLER` of `70_reset_and_hazards.md` rule R214
gives them ("As a machine"), and the block running against them. They are no part of the block or of its step (log 22): the
block's rules hold for every `DATA`, and only statements that name this premise use this file. -/

namespace Sys2Proof.Machine

/-- One controller on a data line: its width `W` (8 or 12), the buttons now held (bit `b` = 1 iff button `b` is pressed), the
buttons captured at the fall of `LATCH`, the counter `n_p`, and `FILL`, the levels it presents after its last button: one for each
value 0 to 16 of the counter, 16 being the level after the sixteenth rising `CLK` edge, until the next latch. -/
structure Controller where
  width : Nat
  buttons : BitVec 12
  captured : BitVec 12
  count : Nat
  fill : BitVec 17
deriving DecidableEq, Repr

/-- "the line presents button `n_p` while `n_p < W` and `FILL` afterwards", active low (R214). DESIGN CHOICE (log 22): the draw
`FILL` is one level per value of the counter, kept for a whole run, so at `n_p` = 16 (STROBE_PUSH and the ticks it stalls) it is
bit 16 of `fill`, which nothing constrains; a counter above 16, which no cycle reaches, reads low. -/
def Controller.line (c : Controller) : Bool :=
  if c.count < c.width then !c.captured.getLsbD c.count else c.fill.getLsbD c.count

/-- What a controller does as the block's outputs go from one state's to the next one's: capture at the fall of `LATCH`; the
counter is "set to 0 while `LATCH = 1` and incremented at each rising edge of `CLK` while `LATCH = 0`" (R214). -/
def Controller.observe (c : Controller) (before after : State) : Controller :=
  { c with
    captured := if before.latch && !after.latch then c.buttons else c.captured
    count := if after.latch then 0 else if !before.clk && after.clk then c.count + 1 else c.count }

/-- The block with a controller on each data line. -/
structure ClosedLoop where
  block : State
  pad0 : Controller
  pad1 : Controller
deriving DecidableEq, Repr

/-- The level of the two data lines: bit 0 pad 0's, bit 1 pad 1's (R19, R30). -/
def ClosedLoop.data (x : ClosedLoop) : Sample := BitVec.ofBool x.pad1.line ++ BitVec.ofBool x.pad0.line

/-- One tick of the block with the lines as the controllers hold them, which then see the outputs change. DESIGN CHOICE (log 22):
the buttons the players hold do not change in a run of `ticks`; when they do is the Environment's (R28, R215). -/
def ClosedLoop.tick (x : ClosedLoop) : Option ClosedLoop :=
  match step (x.block.setSched (.tick x.data :: x.block.sched)) with
  | .next t => some { block := t, pad0 := x.pad0.observe x.block t, pad1 := x.pad1.observe x.block t }
  | .fault _ => none
  | .refused _ => none

/-- `n` ticks, with the same buttons held throughout (log 22). -/
def ClosedLoop.ticks : Nat → ClosedLoop → Option ClosedLoop
  | 0, x => some x
  | n + 1, x =>
    match x.tick with
    | some y => ClosedLoop.ticks n y
    | none => none

end Sys2Proof.Machine
end

