-- ==== Sys2Proof/Safety.lean ====
section
/-! DEFINITION. What the statements are written in: the invariants of the block, finite runs, the words a run pushes, the
one-step Publisher, and the named premises about the data lines. -/

namespace Sys2Proof.Safety

open Sys2Proof.Machine

/-- The invariants of `10_state.md` rule R34 that speak of one state: "`0 <= FIFO.len <= FIFO_DEPTH`; `PHASE` is in 0 to 33; if
`EN = 0` then `PHASE = 32`, `FIFO` is empty and `LATEST = 0`". -/
structure Legal (s : State) : Prop where
  fifo_fits : s.fifo.length ≤ s.params.fifoDepth
  phase_legal : s.phase.toNat ≤ 33
  disabled_clean : s.en = false → s.phase = 32 ∧ s.fifo = [] ∧ s.latest = 0

/-- What initialisation leaves for good (R206, R207, R50, R26): an invocation in progress was let in by `IRQ_EN`, and an enabled
block is initialised on four distinct pins. -/
structure Initialised (s : State) : Prop where
  handler_enabled : s.pubActive = true → s.irqEn = true
  enabled_ready : s.en = true → s.initialised = true ∧ s.pinsDistinct = true

/-- `n` steps of the machine, if each answers a next state. -/
def steps : Nat → State → Option State
  | 0, s => some s
  | n + 1, s =>
    match step s with
    | .next t => steps n t
    | .fault _ => none
    | .refused _ => none

/-- The word the next step pushes, if it pushes one: only a tick at `PHASE` 31 with room does (R43, R107). -/
def pushedNext (s : State) : List Word :=
  match s.nextEvent.1 with
  | .tick _ => if s.en && decide (s.phase = 31) && s.hasRoom then [s.sr] else []
  | .publisher => []
  | .fn _ _ _ => []
  | .prim _ _ _ _ _ => []
  | .ctrl _ => []
  | .init _ => []
  | .rst => []

/-- What `LATEST` holds after the words `taken` were taken in order: 0 before the first TAKE, else the complement of the last
(R24, R131, R135). -/
def latestAfter (taken : List Word) : Word :=
  match taken.getLast? with
  | none => 0
  | some w => ~~~w

/-- The words pushed so far are those already taken followed by those still queued, and `LATEST` is as the taken ones leave it:
order and content kept, nothing invented (R34, R42, R54). -/
def Published (pushed : List Word) (s : State) : Prop :=
  ∃ taken, pushed = taken ++ s.fifo ∧ s.latest = latestAfter taken

/-- The elements the one-step Publisher model of R136 keeps, and `IRQ_EN`, which gates its step. -/
structure OneStepView where
  en : Bool
  phase : Phase
  sr : Word
  fifo : List Word
  latest : Word
  irqEn : Bool
deriving DecidableEq, Repr

/-- What the one-step model sees of a state. -/
def view (s : State) : OneStepView :=
  { en := s.en, phase := s.phase, sr := s.sr, fifo := s.fifo, latest := s.latest, irqEn := s.irqEn }

/-- The one-step model's Publisher: TAKE, "enabled exactly when `FIFO.len > 0` and `IRQ_EN = 1`" (R136). -/
def oneStepTake (v : OneStepView) : Option OneStepView :=
  match v.fifo with
  | [] => none
  | w :: rest => if v.irqEn then some { v with fifo := rest, latest := ~~~w } else none

/-- The events of 34 ticks whose data lines read `d 0` to `d 33`; SETTLE `k` is tick `2 + 2k` of the cycle (R102). -/
def cycleTicks (d : Fin 34 → Sample) : List Event := (List.ofFn d).map Event.tick

/-- Premise `PAD_IDLE_HIGH` of R214 over one cycle: both lines read 1 at SETTLE 12 to 15. -/
def PadIdleHigh (d : Fin 34 → Sample) : Prop := ∀ k : Fin 4, d ⟨2 + 2 * (12 + k.val), by omega⟩ = 3

/-- Premise `NO_CONTROLLER_HIGH(p)` of R214 over one cycle: line `p` reads 1 at every sample. -/
def NoControllerHigh (p : Pad) (d : Fin 34 → Sample) : Prop :=
  ∀ k : Fin 16, (d ⟨2 + 2 * k.val, by omega⟩).getLsbD p.toNat = true

/-- Premise `SETTLED` of R214 over one cycle: at every SETTLE the lines read the level `presented k` the controllers present. -/
def Settled (presented : Fin 16 → Sample) (d : Fin 34 → Sample) : Prop :=
  ∀ k : Fin 16, d ⟨2 + 2 * k.val, by omega⟩ = presented k

/-- The RawState of two pads' buttons: bit `2b + p` is button `b` of pad `p`, bits 24 to 31 are 0 (R61). -/
def IsRawState (buttons0 buttons1 : BitVec 12) (w : Word) : Prop :=
  (∀ b : Fin 12, w.getLsbD (2 * b.val) = buttons0.getLsbD b.val ∧ w.getLsbD (2 * b.val + 1) = buttons1.getLsbD b.val) ∧
  ∀ j : Fin 8, w.getLsbD (24 + j.val) = false

/-- The refusals a step may answer (R178 and the rules of their docstrings), each with what brought it about: the event and the
state it met. No step answers any other. -/
def RefusalCause (r : Refusal) (e : Event) (s : State) : Prop :=
  match r with
  | .reservedPhase => 34 ≤ s.phase.toNat
  | .reservedPrim => ∃ pad button target stateIn, e = .prim 3 pad button target stateIn
  | .disable => e = .ctrl 0
  | .secondEnable => e = .ctrl 1 ∧ s.en = true
  | .enableBeforeInit => e = .ctrl 1 ∧ s.en = false ∧ s.initialised = false
  | .pinsNotDistinct => e = .ctrl 1 ∧ s.en = false ∧ s.pinsDistinct = false
  | .enableNotClean => e = .ctrl 1 ∧ s.en = false ∧ s.cleanEntry = false
  | .configWhileEnabled => (∃ a, e = .init a) ∧ s.en = true
  | .handlerBeforeCell => e = .init .handler ∧ s.en = false ∧ s.initDone.cell = false
  | .periodNotPositive => (∃ p, e = .init (.period p) ∧ periodPositive p = false) ∧ s.en = false
  | .resetWhileEnabled => e = .rst ∧ s.en = true
  | _ => False

end Sys2Proof.Safety
end

