-- ==== Sys2Proof/Certificates/Slice0/Obligations.lean ====
section
/-! DEFINITION. The statements for the provers, one per numbered entry of OBLIGATIONS.json. The docstring of each names the rule
of the spec it formalises. A statement quantifies over every state unless it says otherwise. -/

open Sys2Proof Sys2Proof.Machine Sys2Proof.Safety

/-! ### Selectors (R71 to R78) -/

/-- Decoding the selector of a well-formed operation gives the operation back, whatever its operands (R73 to R76). -/
def Obligations.EncodeThenDecode : Prop :=
  ∀ i : Instr, i.wf = true → decode (encode i) = .ok i

/-- A selector that decodes stands for a well-formed operation whose own selector has the same format and the same bits. -/
def Obligations.DecodeThenEncode : Prop :=
  ∀ (sel : Selector) (i : Instr), decode sel = .ok i →
    i.wf = true ∧ (encode i).format = sel.format ∧ (encode i).bits = sel.bits

/-- The decoder and the opcode table agree on every selector: the first row that accepts it names the operation decoded, and no
row accepts a selector the decoder rejects. -/
def Obligations.DecodeFollowsTable : Prop :=
  ∀ sel : Selector, (opcodeTable.find? (fun r => r.accepts sel)).map OpcodeRow.mnemonic
    = (decode sel).toOption.map Instr.mnemonic

/-- Words written out from the patterns of R73 to R76 decode to the operations they stand for. -/
def Obligations.WrittenWordsDecode : Prop :=
  decode (.seq 0b100001#6) = .ok (.latch 1) ∧
  decode (.seq 0b001010#6) = .ok (.settle 5) ∧
  decode (.seq 0b011101#6) = .ok (.strobe 14) ∧
  decode (.seq 0b011111#6) = .ok .strobePush ∧
  decode (.seq 0b100010#6) = .error .reservedPhase ∧
  decode (.entry 0b10#2) = .ok .enter ∧
  decode (.pub 0b1#1) = .ok .take ∧
  decode (.fn 0b10#2 1 0xFFFFFFFF) = .ok (.toDualLeft 0xFFFFFFFF 1) ∧
  decode (.prim 0b10#2 1 11 31 0x00800000) = .ok (.extractAndRelocate 0x00800000 1 11 31) ∧
  decode (.prim 0b11#2 0 0 0 0) = .error .reservedPrim ∧
  decode (.ctrl 0b0#1) = .error .disable

/-- The SEQ opcode map with the outputs of each tick (R73): while disabled a tick selects nothing; while enabled it selects by
`PHASE`, and `LATCH` and `CLK` are as the map gives them; 34 to 63 stand for no operation. -/
def Obligations.SequencerOpcodeMap : Prop :=
  ∀ (s : State) (d : Sample),
    (s.en = false → s.presented (.tick d) = none) ∧
    (s.en = true →
      s.presented (.tick d) = some (.seq s.phase) ∧
      (s.phase.toNat = 32 → decode (.seq s.phase) = .ok (.latch 0) ∧ s.latch = true ∧ s.clk = false) ∧
      (s.phase.toNat = 33 → decode (.seq s.phase) = .ok (.latch 1) ∧ s.latch = true ∧ s.clk = false) ∧
      (∀ k : Nat, k ≤ 15 → s.phase.toNat = 2 * k →
        decode (.seq s.phase) = .ok (.settle (BitVec.ofNat 4 k)) ∧ s.latch = false ∧ s.clk = false) ∧
      (∀ k : Nat, k ≤ 14 → s.phase.toNat = 2 * k + 1 →
        decode (.seq s.phase) = .ok (.strobe (BitVec.ofNat 4 k)) ∧ s.latch = false ∧ s.clk = true) ∧
      (s.phase.toNat = 31 → decode (.seq s.phase) = .ok .strobePush ∧ s.latch = false ∧ s.clk = true) ∧
      (34 ≤ s.phase.toNat → decode (.seq s.phase) = .error .reservedPhase))

/-! ### The Bit-Position Algebra (R86 to R94) -/

/-- `bitPosition` answers `(button << 1) + pad`, five bits, for every pad and every four-bit button (R86, R94). -/
def Obligations.BitPositionAnswers : Prop :=
  ∀ (s : State) (pad : Pad) (button : ButtonCode), ∃ p : Position,
    exec (.bitPosition pad button) s = .next { s with primResult := .index p } ∧
    p.toNat = 2 * button.toNat + pad.toNat

/-- `bitPosition` is injective: the answer gives the operands back (`index >> 1`, `index & 1`), so no two distinct (pad, button)
pairs get the same one, and a ButtonIndex 0 to 11 gets one in 0 to 23 (R87). -/
def Obligations.BitPositionInjective : Prop :=
  ∀ (s t : State) (pad pad' : Pad) (button button' : ButtonCode),
    exec (.bitPosition pad button) s = .next t →
    (exec (.bitPosition pad' button') s = .next t → pad = pad' ∧ button = button') ∧
    ∃ p : Position, t.primResult = .index p ∧ p.toNat >>> 1 = button.toNat ∧ p.toNat % 2 = pad.toNat ∧
      (button.toNat ≤ 11 → p.toNat ≤ 23)

/-- `bitMask` answers the word whose one set bit is bit `(button << 1) + pad`, at most 0x00800000 for a ButtonIndex (R88). -/
def Obligations.BitMaskAnswers : Prop :=
  ∀ (s : State) (pad : Pad) (button : ButtonCode), ∃ w : Word,
    exec (.bitMask pad button) s = .next { s with primResult := .word w } ∧
    w = 1#32 <<< (2 * button.toNat + pad.toNat) ∧
    (∀ j : Nat, w.getLsbD j = decide (j = 2 * button.toNat + pad.toNat)) ∧
    (button.toNat ≤ 11 → w.toNat ≤ 0x00800000)

/-- `extractAndRelocate` isolates the source bit and shifts it left, right or not at all, as the target lies above, below or at
the source position (R90). -/
def Obligations.RelocateShifts : Prop :=
  ∀ (s : State) (stateIn : Word) (pad : Pad) (button : ButtonCode) (target : Position) (pos : Nat) (m : Word),
    pos = 2 * button.toNat + pad.toNat → m = stateIn &&& (1#32 <<< pos) →
    ∃ w : Word, exec (.extractAndRelocate stateIn pad button target) s = .next { s with primResult := .word w } ∧
      (pos < target.toNat → w = m <<< (target.toNat - pos)) ∧
      (target.toNat < pos → w = m >>> (pos - target.toNat)) ∧
      (target.toNat = pos → w = m)

/-- "Result has at most one bit set, and only at `targetBitPosition`": the answer is `1 << target` if the source bit is 1 and 0
if it is 0, whatever the other bits of the state operand (R91). -/
def Obligations.RelocateOneBit : Prop :=
  ∀ (s : State) (stateIn : Word) (pad : Pad) (button : ButtonCode) (target : Position), ∃ w : Word,
    exec (.extractAndRelocate stateIn pad button target) s = .next { s with primResult := .word w } ∧
    w = (if stateIn.getLsbD (2 * button.toNat + pad.toNat) then 1#32 else 0#32) <<< target.toNat ∧
    ∀ j : Nat, w.getLsbD j = (decide (j = target.toNat) && stateIn.getLsbD (2 * button.toNat + pad.toNat))

/-- Relocations to pairwise distinct targets compose: their OR is their sum, and at each target it holds that relocation's source
bit (R89). -/
def Obligations.RelocationsCompose : Prop :=
  ∀ (x : Word) (pad : Pad) (moves : List (ButtonCode × Position)), (moves.map Prod.snd).Nodup →
    (moves.map (fun m : ButtonCode × Position => relocate x pad m.1 m.2)).foldr (· ||| ·) 0
      = (moves.map (fun m : ButtonCode × Position => relocate x pad m.1 m.2)).foldr (· + ·) 0 ∧
    ∀ m ∈ moves,
      ((moves.map (fun m : ButtonCode × Position => relocate x pad m.1 m.2)).foldr (· ||| ·) 0).getLsbD m.2.toNat
        = x.getLsbD (2 * m.1.toNat + pad.toNat)

/-! ### The converters (R153 to R167) -/

/-- `toSingleStick` bit by bit, for every `SS_SRC` (R154). -/
def Obligations.SingleStickBits : Prop :=
  ∀ (s : State) (x : Word) (pad : Pad), ∃ r : Byte,
    exec (.toSingleStick x pad) s = .next { s with result := .byte r } ∧
    r.getLsbD 0 = x.getLsbD (14 + pad.toNat) ∧
    r.getLsbD 1 = x.getLsbD (12 + pad.toNat) ∧
    r.getLsbD 2 = x.getLsbD (10 + pad.toNat) ∧
    r.getLsbD 3 = x.getLsbD (8 + pad.toNat) ∧
    r.getLsbD 4 = x.getLsbD (2 * (buttonCode s.params.ssSrc.button0).toNat + pad.toNat) ∧
    r.getLsbD 5 = x.getLsbD (2 * (buttonCode s.params.ssSrc.button1).toNat + pad.toNat) ∧
    r.getLsbD 6 = x.getLsbD (2 * (buttonCode s.params.ssSrc.button2).toNat + pad.toNat) ∧
    r.getLsbD 7 = x.getLsbD (2 * (buttonCode s.params.ssSrc.button3).toNat + pad.toNat)

/-- `toDualLeft` bit by bit, for every `FIRE_SRC`: pressed = 0, bits 7:5 always 1 (R158). -/
def Obligations.DualLeftBits : Prop :=
  ∀ (s : State) (x : Word) (pad : Pad), ∃ r : Byte,
    exec (.toDualLeft x pad) s = .next { s with result := .byte r } ∧
    r.getLsbD 0 = !x.getLsbD (12 + pad.toNat) ∧
    r.getLsbD 1 = !x.getLsbD (14 + pad.toNat) ∧
    r.getLsbD 2 = !x.getLsbD (10 + pad.toNat) ∧
    r.getLsbD 3 = !x.getLsbD (8 + pad.toNat) ∧
    r.getLsbD 4 = !x.getLsbD (2 * (buttonCode s.params.fireSrc).toNat + pad.toNat) ∧
    r.getLsbD 5 = true ∧ r.getLsbD 6 = true ∧ r.getLsbD 7 = true

/-- `toDualRight` bit by bit, for every `FIRE_SRC` (R161). -/
def Obligations.DualRightBits : Prop :=
  ∀ (s : State) (x : Word) (pad : Pad), ∃ r : Byte,
    exec (.toDualRight x pad) s = .next { s with result := .byte r } ∧
    r.getLsbD 0 = !x.getLsbD (2 * (buttonCode s.params.fireSrc).toNat + pad.toNat) ∧
    r.getLsbD 1 = !x.getLsbD (8 + pad.toNat) ∧
    r.getLsbD 2 = !x.getLsbD (10 + pad.toNat) ∧
    r.getLsbD 3 = !x.getLsbD (14 + pad.toNat) ∧
    r.getLsbD 4 = !x.getLsbD (12 + pad.toNat) ∧
    r.getLsbD 5 = true ∧ r.getLsbD 6 = true ∧ r.getLsbD 7 = true

/-- The complement-and-mask step on an accumulator whose bits 31:5 are 0, over 32 bits or over 8, and the range of both dual-stick
results (R159). -/
def Obligations.DualResultsInRange : Prop :=
  (∀ acc : Word, acc.toNat < 32 →
    (complementAndMask acc).toNat = 0xFF - acc.toNat ∧
    complementAndMask acc = 0xE0#8 ||| (0x1F#8 &&& ~~~(acc.extractLsb' 0 8)) ∧
    complementAndMask acc = ~~~(acc.extractLsb' 0 8)) ∧
  ∀ (s : State) (x : Word) (pad : Pad), ∃ l r : Byte,
    exec (.toDualLeft x pad) s = .next { s with result := .byte l } ∧
    exec (.toDualRight x pad) s = .next { s with result := .byte r } ∧
    0xE0 ≤ l.toNat ∧ l.toNat ≤ 0xFF ∧ 0xE0 ≤ r.toNat ∧ r.toNat ≤ 0xFF

/-- On the same word and pad, bits 4:0 of the right result are bits 4:0 of the left one reversed (R163). -/
def Obligations.DualResultsMirror : Prop :=
  ∀ (s : State) (x : Word) (pad : Pad), ∃ l r : Byte,
    exec (.toDualLeft x pad) s = .next { s with result := .byte l } ∧
    exec (.toDualRight x pad) s = .next { s with result := .byte r } ∧
    ∀ j : Fin 5, r.getLsbD j.val = l.getLsbD (4 - j.val)

/-- A converter depends only on the bits `2b + pad` of its operand for the buttons `b` it uses (R164). -/
def Obligations.ConvertersReadOwnPadOnly : Prop :=
  ∀ (s : State) (x y : Word) (pad : Pad),
    (∀ b ∈ [ButtonIndex.right, .left, .down, .up],
      x.getLsbD (2 * (buttonCode b).toNat + pad.toNat) = y.getLsbD (2 * (buttonCode b).toNat + pad.toNat)) →
    ((∀ b ∈ s.params.ssSrc.toList,
      x.getLsbD (2 * (buttonCode b).toNat + pad.toNat) = y.getLsbD (2 * (buttonCode b).toNat + pad.toNat)) →
      exec (.toSingleStick x pad) s = exec (.toSingleStick y pad) s) ∧
    (x.getLsbD (2 * (buttonCode s.params.fireSrc).toNat + pad.toNat)
        = y.getLsbD (2 * (buttonCode s.params.fireSrc).toNat + pad.toNat) →
      exec (.toDualLeft x pad) s = exec (.toDualLeft y pad) s ∧
      exec (.toDualRight x pad) s = exec (.toDualRight y pad) s)

/-- Corner cases of `toSingleStick` for every admissible `SS_SRC` (R157): all used bits clear give 0x00 (so 0 does), all set give
0xFF (so 0xFFFFFFFF does), the word with only the pad's Up bit gives 0x08, and opposite directions pass through together. -/
def Obligations.SingleStickCorners : Prop :=
  ∀ (s : State) (x : Word) (pad : Pad), s.params.wf = true →
    ((∀ b ∈ [ButtonIndex.right, .left, .down, .up] ++ s.params.ssSrc.toList,
        x.getLsbD (2 * (buttonCode b).toNat + pad.toNat) = false) →
      exec (.toSingleStick x pad) s = .next { s with result := .byte 0x00 }) ∧
    ((∀ b ∈ [ButtonIndex.right, .left, .down, .up] ++ s.params.ssSrc.toList,
        x.getLsbD (2 * (buttonCode b).toNat + pad.toNat) = true) →
      exec (.toSingleStick x pad) s = .next { s with result := .byte 0xFF }) ∧
    exec (.toSingleStick 0 pad) s = .next { s with result := .byte 0x00 } ∧
    exec (.toSingleStick 0xFFFFFFFF pad) s = .next { s with result := .byte 0xFF } ∧
    exec (.toSingleStick (1#32 <<< (8 + pad.toNat)) pad) s = .next { s with result := .byte 0x08 } ∧
    ∃ r : Byte, exec (.toSingleStick x pad) s = .next { s with result := .byte r } ∧
      (x.getLsbD (14 + pad.toNat) = true → x.getLsbD (12 + pad.toNat) = true →
        r.getLsbD 0 = true ∧ r.getLsbD 1 = true) ∧
      (x.getLsbD (10 + pad.toNat) = true → x.getLsbD (8 + pad.toNat) = true →
        r.getLsbD 2 = true ∧ r.getLsbD 3 = true)

/-- Corner cases of the dual-stick converters for every `FIRE_SRC` (R160, R162): 0 gives 0xFF, all five source bits set give 0xE0
(so 0xFFFFFFFF does), and, with a `FIRE_SRC` other than Up, Up alone gives 0xF7 on the left and 0xFD on the right. -/
def Obligations.DualCorners : Prop :=
  ∀ (s : State) (x : Word) (pad : Pad),
    exec (.toDualLeft 0 pad) s = .next { s with result := .byte 0xFF } ∧
    exec (.toDualRight 0 pad) s = .next { s with result := .byte 0xFF } ∧
    exec (.toDualLeft 0xFFFFFFFF pad) s = .next { s with result := .byte 0xE0 } ∧
    exec (.toDualRight 0xFFFFFFFF pad) s = .next { s with result := .byte 0xE0 } ∧
    ((∀ b ∈ [ButtonIndex.right, .left, .down, .up, s.params.fireSrc],
        x.getLsbD (2 * (buttonCode b).toNat + pad.toNat) = true) →
      exec (.toDualLeft x pad) s = .next { s with result := .byte 0xE0 } ∧
      exec (.toDualRight x pad) s = .next { s with result := .byte 0xE0 }) ∧
    (s.params.fireSrc ≠ .up →
      exec (.toDualLeft (1#32 <<< (8 + pad.toNat)) pad) s = .next { s with result := .byte 0xF7 } ∧
      exec (.toDualRight (1#32 <<< (8 + pad.toNat)) pad) s = .next { s with result := .byte 0xFD })

/-! ### The Sequencer (R100 to R122) -/

/-- LATCH.0 moves `PHASE` 32 to 33 and LATCH.1 moves 33 to 0, nothing else changes, `LATCH` = 1 and `CLK` = 0 during both, and
`LATCH` falls as LATCH.1 ends (R103). -/
def Obligations.LatchAdvances : Prop :=
  ∀ s : State, s.en = true →
    (s.phase = 32 → s.latch = true ∧ s.clk = false ∧
      ∃ t : State, exec (.latch 0) s = .next t ∧ t = { s with phase := 33 } ∧ t.latch = true) ∧
    (s.phase = 33 → s.latch = true ∧ s.clk = false ∧
      ∃ t : State, exec (.latch 1) s = .next t ∧ t = { s with phase := 0 } ∧ t.latch = false)

/-- SETTLE `k` at `PHASE` = 2k: the sample enters `SR` at bits 31:30, every other bit moves down two places, `PHASE` becomes
2k + 1, and both outputs are 0 during the tick (R104). -/
def Obligations.SettleSamples : Prop :=
  ∀ (s : State) (k : BitVec 4), s.en = true → s.phase.toNat = 2 * k.toNat →
    ∃ (sr' : Word) (phase' : Phase),
      exec (.settle k) s = .next { s with sr := sr', phase := phase' } ∧
      phase'.toNat = 2 * k.toNat + 1 ∧
      sr' = (s.data.setWidth 32 <<< 30) ||| (s.sr >>> 2) ∧
      sr'.getLsbD 31 = s.data.getLsbD 1 ∧ sr'.getLsbD 30 = s.data.getLsbD 0 ∧
      (∀ j : Nat, j < 30 → sr'.getLsbD j = s.sr.getLsbD (j + 2)) ∧
      s.latch = false ∧ s.clk = false

/-- STROBE `k` at `PHASE` = 2k + 1, `k` not 15: only `PHASE` moves, to 2k + 2; `CLK` = 1 during the tick and falls at its end
(R105). -/
def Obligations.StrobeAdvances : Prop :=
  ∀ (s : State) (k : BitVec 4), k ≠ 15 → s.en = true → s.phase.toNat = 2 * k.toNat + 1 →
    s.latch = false ∧ s.clk = true ∧
    ∃ (phase' : Phase) (t : State), exec (.strobe k) s = .next t ∧ t = { s with phase := phase' } ∧
      phase'.toNat = 2 * k.toNat + 2 ∧ t.clk = false

/-- STROBE_PUSH with room: `SR` is appended at the tail and not cleared, `PHASE` becomes 32, `PENDING` becomes 1, and `FULL`
becomes 1 if the push fills the FIFO (R107). -/
def Obligations.StrobePushQueues : Prop :=
  ∀ s : State, s.en = true → s.phase = 31 → s.fifo.length < s.params.fifoDepth →
    ∃ t : State, exec .strobePush s = .next t ∧ t = { s with fifo := s.fifo ++ [s.sr], phase := 32 } ∧
      t.pending = true ∧ (t.full = true ↔ s.fifo.length + 1 = s.params.fifoDepth) ∧
      s.latch = false ∧ s.clk = true

/-- STROBE_PUSH with the FIFO full: under `stall` nothing changes and the outputs stay `LATCH` = 0, `CLK` = 1; under `drop_new`
only `PHASE` changes, to 32, and the word is lost (R108). -/
def Obligations.StrobePushFull : Prop :=
  ∀ s : State, s.en = true → s.phase = 31 → s.fifo.length = s.params.fifoDepth →
    (s.params.fullPolicy = .stall → exec .strobePush s = .next s ∧ s.latch = false ∧ s.clk = true) ∧
    (s.params.fullPolicy = .dropNew → exec .strobePush s = .next { s with phase := 32 })

/-- A tick while `EN` = 0 changes nothing but the level on the data port, and both outputs are 0 (R118). -/
def Obligations.DisabledTickChangesNothing : Prop :=
  ∀ (s : State) (d : Sample) (rest : List Event), s.phase.toNat ≤ 33 → s.en = false → s.sched = .tick d :: rest →
    step s = .next { s with data := d, sched := rest } ∧ s.clk = false ∧ s.latch = false

/-- ENABLE from the disabled, initialised, clean state on four distinct pins sets `EN` and changes nothing else; `LATCH` rises
at once and the first tick presents LATCH.0 (R117). -/
def Obligations.EnableSetsEn : Prop :=
  ∀ s : State, s.en = false → s.irqEn = true →
    s.initDone = { dataBase := true, clkBase := true, period := true, program := true, cell := true } →
    s.config.dataBase ≠ s.config.clkBase → s.config.dataBase + 1 ≠ s.config.clkBase →
    s.config.dataBase ≠ s.config.clkBase + 1 →
    s.phase = 32 → s.sr = 0 → s.fifo = [] → s.latest = 0 → s.pubActive = false →
    ∃ t : State, exec .enable s = .next t ∧ t = { s with en := true } ∧ t.latch = true ∧ t.clk = false ∧
      ∀ d : Sample, t.presented (.tick d) = some (encode (.latch 0))

/-- A second ENABLE and a write of 0 to `CTRL.EN` are refused, and no step takes `EN` from 1 to 0 (R119); an ENABLE before any of
initialisation steps 1 to 6 is done is refused, and so is any initialisation step after ENABLE (R207). -/
def Obligations.EnableRefused : Prop :=
  ∀ s : State,
    (s.en = true → exec .enable s = .refused .secondEnable) ∧
    (∀ rest, s.phase.toNat ≤ 33 → s.sched = .ctrl 0 :: rest → step s = .refused .disable) ∧
    (∀ t, s.en = true → step s = .next t → t.en = true) ∧
    (s.en = false →
      (s.irqEn = false ∨ s.initDone.dataBase = false ∨ s.initDone.clkBase = false ∨ s.initDone.period = false
        ∨ s.initDone.program = false ∨ s.initDone.cell = false) →
      exec .enable s = .refused .enableBeforeInit) ∧
    ∀ a rest, s.phase.toNat ≤ 33 → s.en = true → s.sched = .init a :: rest → step s = .refused .configWhileEnabled

/-- Once steps 1 and 2 are done and the pins are distinct, `DATA_BASE + p` is the line of pad `p`, `CLK_BASE` carries `CLK` and
`CLK_BASE + 1` carries `LATCH` (R30, R31); `CLK` and `LATCH` are the functions of R17 and R18. -/
def Obligations.PinsCarryOutputs : Prop :=
  ∀ s : State, s.initDone.dataBase = true → s.initDone.clkBase = true → s.pinsDistinct = true →
    s.pinRole s.config.clkBase = .driven (s.en && !s.phase.getLsbD 5 && s.phase.getLsbD 0) ∧
    s.pinRole (s.config.clkBase + 1) = .driven (s.en && s.phase.getLsbD 5) ∧
    s.pinRole s.config.dataBase = .dataLine 0 ∧
    s.pinRole (s.config.dataBase + 1) = .dataLine 1

/-- `PHASE` moves only at a tick while enabled, and then to its successor, 32 to 33 to 0 to 1 and so on to 31 and back to 32,
except that a full FIFO under `stall` holds it at 31. No other step moves it: not another agent's, and none while disabled, where
reset and initialisation write the 32 it holds (R15, R121). -/
def Obligations.PhaseFollowsCycle : Prop :=
  ∀ (s t : State) (e : Event) (rest : List Event), Legal s → s.sched = e :: rest → step s = .next t →
    (s.en = true ∧ (∃ d, e = .tick d) →
      (s.phase.toNat = 31 ∧ s.fifo.length = s.params.fifoDepth ∧ s.params.fullPolicy = .stall → t.phase = s.phase) ∧
      (¬ (s.phase.toNat = 31 ∧ s.fifo.length = s.params.fifoDepth ∧ s.params.fullPolicy = .stall) →
        t.phase.toNat = (if s.phase.toNat = 33 then 0 else if s.phase.toNat = 31 then 32 else s.phase.toNat + 1))) ∧
    (¬ (s.en = true ∧ ∃ d, e = .tick d) → t.phase = s.phase)

/-- One whole cycle with room in the FIFO: from `PHASE` 32, 34 ticks push exactly one word, whose bits 2k+1:2k are the lines at
SETTLE `k`, whatever `SR` held and whatever the lines did at the other ticks; nothing else changes (R109, R112). -/
def Obligations.CyclePlacesSamples : Prop :=
  ∀ (s : State) (d : Fin 34 → Sample) (rest : List Event),
    s.en = true → s.phase = 32 → s.fifo.length < s.params.fifoDepth → s.sched = cycleTicks d ++ rest →
    ∃ w : Word, steps 34 s = some { s with sr := w, fifo := s.fifo ++ [w], data := d 33, sched := rest } ∧
      ∀ k : Fin 16, w.extractLsb' (2 * k.val) 2 = d ⟨2 + 2 * k.val, by omega⟩

/-- A stalled Sequencer repeats the step on every tick: after any number of ticks nothing but the data port has changed
(R108). -/
def Obligations.StallRepeats : Prop :=
  ∀ (ds : List Sample) (s : State) (rest : List Event),
    s.en = true → s.phase = 31 → s.fifo.length = s.params.fifoDepth → s.params.fullPolicy = .stall →
    s.sched = ds.map Event.tick ++ rest →
    steps ds.length s = some { s with data := ds.getLastD s.data, sched := rest }

/-- Against reference controllers one cycle from `PHASE` 32 pushes a word whose complement holds, at bit `2k + p`, button `k` of
pad `p` as held at the latch where `k` is below the pad's width, and the complement of `FILL` elsewhere (R214, R66, R111). Widths
other than 8 and 12, and buttons held unchanged through the cycle, are the model's (log 22). -/
def Obligations.CycleReadsControllers : Prop :=
  ∀ x : ClosedLoop, x.block.en = true → x.block.phase = 32 → x.block.fifo.length < x.block.params.fifoDepth →
    ∃ (y : ClosedLoop) (w : Word), ClosedLoop.ticks 34 x = some y ∧ y.block.fifo = x.block.fifo ++ [w] ∧
      y.block.phase = 32 ∧ y.block.latest = x.block.latest ∧
      ∀ k : Fin 16,
        (~~~w).getLsbD (2 * k.val) =
          (if k.val < x.pad0.width then x.pad0.buttons.getLsbD k.val else !x.pad0.fill.getLsbD k.val) ∧
        (~~~w).getLsbD (2 * k.val + 1) =
          (if k.val < x.pad1.width then x.pad1.buttons.getLsbD k.val else !x.pad1.fill.getLsbD k.val)

/-- Under `REF_CONTROLLER` for both pads with `W` = 12 and `PAD_IDLE_HIGH`, one cycle and the Publisher's steps publish exactly the
RawState of the buttons as they were at that cycle's latch: ENTER and TAKE where no invocation is in progress, TAKE inside one
(R214). The buttons are held unchanged through the cycle (log 22). -/
def Obligations.CyclePublishesRawState : Prop :=
  ∀ x : ClosedLoop, x.block.en = true → x.block.phase = 32 → x.block.fifo = [] →
    1 ≤ x.block.params.fifoDepth → x.pad0.width = 12 → x.pad1.width = 12 →
    (∀ k : Fin 4, x.pad0.fill.getLsbD (12 + k.val) = true ∧ x.pad1.fill.getLsbD (12 + k.val) = true) →
    ∃ y : ClosedLoop, ClosedLoop.ticks 34 x = some y ∧
      (x.block.pubActive = false → x.block.irqEn = true → ∃ u t : State, exec .enter y.block = .next u ∧
        exec .take u = .next t ∧ IsRawState x.pad0.buttons x.pad1.buttons t.latest) ∧
      (x.block.pubActive = true → ∃ t : State, exec .take y.block = .next t ∧
        IsRawState x.pad0.buttons x.pad1.buttons t.latest)

/-- The premises of R214 on the lines alone, over one cycle: `SETTLED` gives the word of the levels the controllers present,
`PAD_IDLE_HIGH` gives bits 31:24 of the published word 0 (R65), and `NO_CONTROLLER_HIGH(p)` gives every bit of pad `p` 0. -/
def Obligations.PremisesOnLines : Prop :=
  ∀ (s : State) (d : Fin 34 → Sample) (rest : List Event),
    s.en = true → s.phase = 32 → s.fifo.length < s.params.fifoDepth → s.sched = cycleTicks d ++ rest →
    ∃ (t : State) (w : Word), steps 34 s = some t ∧ t.fifo = s.fifo ++ [w] ∧
      (∀ presented : Fin 16 → Sample, Settled presented d → ∀ k : Fin 16, w.extractLsb' (2 * k.val) 2 = presented k) ∧
      (PadIdleHigh d → (~~~w).extractLsb' 24 8 = 0) ∧
      ∀ p : Pad, NoControllerHigh p d → ∀ k : Fin 16, (~~~w).getLsbD (2 * k.val + p.toNat) = false

/-! ### The Publisher (R130 to R140, R179 to R185) -/

/-- ENTER with `IRQ` = 1 and no invocation in progress sets `PUB_ACTIVE` and changes nothing else (R133, R183). -/
def Obligations.EnterSetsPubActive : Prop :=
  ∀ s : State, s.fifo ≠ [] → s.irqEn = true → s.pubActive = false →
    s.irq = true ∧ exec .enter s = .next { s with pubActive := true }

/-- TAKE pops the head and writes its complement, all 32 bits, in one step; `PENDING` stays 1 only if words are left, and `FULL`
becomes 0 (R131). -/
def Obligations.TakePublishesHead : Prop :=
  ∀ (s : State) (w : Word) (rest : List Word), s.pubActive = true → s.fifo = w :: rest →
    ∃ t : State, exec .take s = .next t ∧ t = { s with fifo := rest, latest := ~~~w } ∧
      (∀ j : Nat, j < 32 → t.latest.getLsbD j = !w.getLsbD j) ∧
      (t.pending = true ↔ rest ≠ []) ∧ (s.fifo.length ≤ s.params.fifoDepth → t.full = false)

/-- RETURN with the FIFO empty clears `PUB_ACTIVE` and changes nothing else (R134, R185). -/
def Obligations.ReturnClearsPubActive : Prop :=
  ∀ s : State, s.pubActive = true → s.fifo = [] → exec .ret s = .next { s with pubActive := false }

/-- One invocation over the words pending, with no other step between: ENTER, one TAKE per word, each writing the complement of
its word over the one before, and RETURN. It leaves the complement of the last word: last write wins (R135). -/
def Obligations.DrainKeepsLastWord : Prop :=
  ∀ (ws : List Word) (w : Word) (s : State) (rest : List Event),
    s.phase.toNat ≤ 33 → s.pubActive = false → s.irqEn = true → s.fifo = ws ++ [w] →
    s.sched = List.replicate (ws.length + 3) .publisher ++ rest →
    steps (ws.length + 3) s = some { s with fifo := [], latest := ~~~w, sched := rest } ∧
    ∀ j : Nat, j ≤ ws.length → ∃ (t : State) (v : Word), steps (j + 2) s = some t ∧ (ws ++ [w])[j]? = some v ∧
      t.latest = ~~~v ∧ t.fifo = (ws ++ [w]).drop (j + 1) ∧ t.pubActive = true

/-- A push and a TAKE that coincide may come in either order with the same outcome, when a word is queued and there is room:
TAKE pops the older head and the pushed word waits behind (R182). -/
def Obligations.PushAndTakeCommute : Prop :=
  ∀ s : State, s.en = true → s.phase = 31 → s.pubActive = true → s.fifo ≠ [] → s.fifo.length < s.params.fifoDepth →
    ∃ p q u : State, exec .strobePush s = .next p ∧ exec .take p = .next u ∧
      exec .take s = .next q ∧ exec .strobePush q = .next u

/-- Every step of the Publisher is, to the one-step model of R136, either nothing or its single step TAKE. -/
def Obligations.PublisherRefinesOneStep : Prop :=
  ∀ (s t : State) (rest : List Event), Initialised s → s.sched = .publisher :: rest → step s = .next t →
    view t = view s ∨ oneStepTake (view s) = some (view t)

/-- Every TAKE of the one-step model of R136 is matched by the Publisher's steps: within two of them the same view is
reached. -/
def Obligations.OneStepRefinesPublisher : Prop :=
  ∀ (s : State) (v : OneStepView) (rest : List Event), s.phase.toNat ≤ 33 → oneStepTake (view s) = some v →
    s.sched = .publisher :: .publisher :: rest →
    (∃ t : State, steps 1 s = some t ∧ view t = v) ∨ (∃ t : State, steps 2 s = some t ∧ view t = v)

/-- The interrupt request is a level: 1 exactly while the FIFO holds a word and the source is enabled. Outside the Publisher's
steps no step of an enabled block lowers it, and a Publisher's step lowers it only by the TAKE that empties the FIFO (R180). -/
def Obligations.RequestIsLevel : Prop :=
  ∀ s t : State, (s.irq = true ↔ s.fifo ≠ [] ∧ s.irqEn = true) ∧
    (s.en = true → s.irq = true → step s = .next t → t.irq = false →
      s.nextEvent.1 = .publisher ∧ s.pubActive = true ∧ ∃ w, s.fifo = [w] ∧ t.fifo = [] ∧ t.latest = ~~~w)

/-- With `IRQ_EN` = 0 the Publisher never runs and `LATEST` stays 0: no step of a state that meets the invariants starts an
invocation, leaves a word queued or makes `LATEST` other than 0, and only initialisation step 6 sets `IRQ_EN`, before ENABLE
(R181). -/
def Obligations.MaskedPublisherIdle : Prop :=
  ∀ s t : State, Legal s → Initialised s → s.irqEn = false → step s = .next t →
    t.pubActive = false ∧ t.fifo = [] ∧ t.latest = 0 ∧
    (t.irqEn = true → s.nextEvent.1 = .init .handler ∧ s.en = false ∧ t.en = false)

/-! ### The Accessor (R145 to R149) -/

/-- `currentState()` answers the whole of `LATEST` and changes nothing else, in every state (R145). -/
def Obligations.CurrentStateAnswers : Prop :=
  ∀ s : State, exec .currentState s = .next { s with result := .word s.latest }

/-- Two READs with no step of the Publisher between them return the same value, whatever else happens between (R149). -/
def Obligations.ReadsAgree : Prop :=
  ∀ (es : List Event) (s t : State) (p p' : Pad) (x x' : Word) (rest : List Event), s.en = true →
    (∀ e ∈ es, e ≠ .publisher) → s.sched = .fn 0 p x :: es ++ .fn 0 p' x' :: rest →
    steps (es.length + 2) s = some t →
    (∃ u, step s = .next u ∧ u.result = .word s.latest) ∧ t.result = .word s.latest

/-! ### The whole machine -/

/-- At a legal `PHASE` a step takes the next listed event, brings a tick's levels to the data port (log 3), and runs the operation
the presented selector decodes to; a tick or a move of the Publisher that presents none is taken and changes nothing more (R118;
of the Publisher R201 says only that it has no enabled step, and the idle move is the model's: log 9). With nothing listed the step
is that of a free event, the model's form of the open schedule (log 2). A state with a reserved `PHASE` is refused (R72, R178). -/
def Obligations.StepRunsSelectedOperation : Prop :=
  ∀ s : State,
    (s.phase.toNat ≤ 33 →
      (∀ (e : Event) (rest : List Event) (t : State), s.sched = e :: rest → t = ({ s with sched := rest } : State).drive e →
        (∀ (sel : Selector) (i : Instr), t.presented e = some sel → decode sel = .ok i → step s = exec i t) ∧
        (e = .publisher ∨ (∃ d, e = .tick d) → t.presented e = none → step s = .next t)) ∧
      (s.sched = [] → step s = step { s with sched := [Config.freeEvent s.draws], draws := s.draws + 1 })) ∧
    (34 ≤ s.phase.toNat → step s = .refused .reservedPhase)

/-- The values reset leaves, for every choice of parameters, and the outputs and flags that follow from them (R33). -/
def Obligations.ResetLeavesValues : Prop :=
  ∀ p : Params, 1 ≤ p.fifoDepth →
    (State.resetWith p).en = false ∧ (State.resetWith p).phase = 32 ∧ (State.resetWith p).sr = 0 ∧
    (State.resetWith p).fifo = [] ∧ (State.resetWith p).latest = 0 ∧ (State.resetWith p).pubActive = false ∧
    (State.resetWith p).irqEn = false ∧ (State.resetWith p).clk = false ∧ (State.resetWith p).latch = false ∧
    (State.resetWith p).pending = false ∧ (State.resetWith p).full = false ∧ (State.resetWith p).irq = false

/-- The reset event while disabled puts every element of R13 at the value of R33 (R200); while enabled it is refused. -/
def Obligations.ResetEventRestores : Prop :=
  ∀ (s : State) (rest : List Event), s.phase.toNat ≤ 33 → s.sched = .rst :: rest →
    (s.en = true → step s = .refused .resetWhileEnabled) ∧
    (s.en = false → ∃ t : State, step s = .next t ∧
      t.en = false ∧ t.phase = 32 ∧ t.sr = 0 ∧ t.fifo = [] ∧ t.latest = 0 ∧
      t.pubActive = false ∧ t.irqEn = false ∧ t.initialised = false ∧ t.params = s.params ∧ t.sched = rest)

/-- Initialisation (R206). In the order given, from the reset state with any positive period: on distinct pins all seven steps
complete and end enabled with everything else as reset left it; on pins that overlap the first six complete and it is ENABLE that
is refused (R50 does not say when: the model's choice, log 12). And each of steps 1 to 6 by itself, from any disabled state, so in
any order: it writes what R206 says and records that it is done (log 6); step 6 before step 5 (log 17) and a period that is not
positive (log 11) are refused. -/
def Obligations.InitialisationEnables : Prop :=
  (∀ (params : Params) (db cb : Nat) (p : Period) (rest : List Event) (s : State), 0 < p.num → 0 < p.den →
    s = { State.resetWith params with
        sched := [.init (.dataBase db), .init (.clkBase cb), .init (.period p), .init .program, .init .cell, .init .handler,
          .ctrl 1] ++ rest } →
    (db ≠ cb ∧ db + 1 ≠ cb ∧ db ≠ cb + 1 →
      steps 7 s = some { State.resetWith params with
          en := true, irqEn := true, config := { dataBase := db, clkBase := cb, period := p },
          initDone := { dataBase := true, clkBase := true, period := true, program := true, cell := true }, sched := rest }) ∧
    (db = cb ∨ db + 1 = cb ∨ db = cb + 1 → ∃ t : State, steps 6 s = some t ∧ step t = .refused .pinsNotDistinct)) ∧
  ∀ (s : State) (a : InitStep) (rest : List Event), s.phase.toNat ≤ 33 → s.en = false → s.sched = .init a :: rest →
    (∀ pin, a = .dataBase pin → ∃ t : State, step s = .next t ∧
      t = { s with
        config := { s.config with dataBase := pin }, initDone := { s.initDone with dataBase := true }, sched := rest } ∧
      (s.initDone.clkBase = false ∨ t.pinsDistinct = true → t.pinRole pin = .dataLine 0 ∧ t.pinRole (pin + 1) = .dataLine 1)) ∧
    (∀ pin, a = .clkBase pin → ∃ t : State, step s = .next t ∧
      t = { s with
        config := { s.config with clkBase := pin }, initDone := { s.initDone with clkBase := true }, sched := rest } ∧
      t.pinRole pin = .driven false ∧ t.pinRole (pin + 1) = .driven false) ∧
    (∀ p, a = .period p → 0 < p.num → 0 < p.den →
      step s = .next { s with
        config := { s.config with period := p }, initDone := { s.initDone with period := true }, sched := rest }) ∧
    (∀ p, a = .period p → p.num = 0 ∨ p.den = 0 → step s = .refused .periodNotPositive) ∧
    (a = .program →
      step s = .next { s with
        phase := 32, sr := 0, fifo := [], initDone := { s.initDone with program := true }, sched := rest }) ∧
    (a = .cell → step s = .next { s with latest := 0, initDone := { s.initDone with cell := true }, sched := rest }) ∧
    (a = .handler → s.initDone.cell = true → step s = .next { s with irqEn := true, sched := rest }) ∧
    (a = .handler → s.initDone.cell = false → step s = .refused .handlerBeforeCell)

/-- The reset state has the invariants of R34 and those of initialisation, for any parameters. -/
def Obligations.ResetIsLegal : Prop :=
  ∀ p : Params, Legal (State.resetWith p) ∧ Initialised (State.resetWith p) ∧ Published [] (State.resetWith p)

/-- Every step keeps the one-state invariants of R34. -/
def Obligations.StepKeepsLegal : Prop :=
  ∀ s t : State, Legal s → step s = .next t → Legal t

/-- Every step keeps: an invocation in progress was let in by `IRQ_EN`, and an enabled block is initialised on distinct pins. -/
def Obligations.StepKeepsInitialised : Prop :=
  ∀ s t : State, Initialised s → step s = .next t → Initialised t

/-- Every step keeps: the words pushed so far are those taken, in order, followed by those queued, and `LATEST` is 0 before the
first TAKE and the complement of the last word taken afterwards (R34, R42, R54). -/
def Obligations.StepKeepsPublished : Prop :=
  ∀ (pushed : List Word) (s t : State), Legal s → Published pushed s → step s = .next t →
    Published (pushed ++ pushedNext s) t

/-- While enabled, only TAKE changes `LATEST` or takes from the FIFO, and only STROBE_PUSH adds to it (R43, R44, R45). -/
def Obligations.OwnersWriteStorage : Prop :=
  ∀ s t : State, s.en = true → step s = .next t →
    (t.fifo = s.fifo ∧ t.latest = s.latest) ∨
    (s.nextEvent.1 = .publisher ∧ s.pubActive = true ∧ ∃ w rest, s.fifo = w :: rest ∧ t.fifo = rest ∧ t.latest = ~~~w) ∨
    ((∃ d, s.nextEvent.1 = .tick d) ∧ s.phase = 31 ∧ s.fifo.length < s.params.fifoDepth ∧
      t.fifo = s.fifo ++ [s.sr] ∧ t.latest = s.latest)

/-- While enabled no step changes `EN`, `IRQ_EN`, the configuration registers, the progress of initialisation or the parameters
(R14, R27, R217). -/
def Obligations.ConfigurationFrozen : Prop :=
  ∀ s t : State, s.en = true → step s = .next t →
    t.en = true ∧ t.irqEn = s.irqEn ∧ t.config = s.config ∧ t.initDone = s.initDone ∧ t.params = s.params

/-- The frame of the Sequencer's operations and of ENABLE: LATCH and STROBE change `PHASE` only, SETTLE `PHASE` and `SR`,
STROBE_PUSH `PHASE` and the tail of the FIFO, ENABLE `EN` only. There is no addressable memory (R41); the FIFO and `LATEST` are
all the storage there is. -/
def Obligations.SequencerFrame : Prop :=
  ∀ s t : State,
    (∀ p, exec (.latch p) s = .next t → t = { s with phase := t.phase }) ∧
    (∀ k, exec (.settle k) s = .next t → t = { s with phase := t.phase, sr := t.sr }) ∧
    (∀ k, exec (.strobe k) s = .next t → t = { s with phase := t.phase }) ∧
    (exec .strobePush s = .next t →
      t = { s with phase := t.phase, fifo := t.fifo } ∧ (t.fifo = s.fifo ∨ t.fifo = s.fifo ++ [s.sr])) ∧
    (exec .enable s = .next t → t = { s with en := true })

/-- The frame of the Publisher's operations: ENTER and RETURN change `PUB_ACTIVE` only, TAKE the head of the FIFO and `LATEST`
(R186). -/
def Obligations.PublisherFrame : Prop :=
  ∀ s t : State,
    (exec .enter s = .next t → t = { s with pubActive := true }) ∧
    (exec .ret s = .next t → t = { s with pubActive := false }) ∧
    (exec .take s = .next t → t = { s with fifo := t.fifo, latest := t.latest } ∧ ∃ w, s.fifo = w :: t.fifo)

/-- The frame of a Reader's operations: they change nothing but the answer on its port (R186, R95, R167, R49). -/
def Obligations.ReaderFrame : Prop :=
  ∀ s t : State,
    (exec .currentState s = .next t → t = { s with result := t.result }) ∧
    (∀ x p, exec (.toSingleStick x p) s = .next t → t = { s with result := t.result }) ∧
    (∀ x p, exec (.toDualLeft x p) s = .next t → t = { s with result := t.result }) ∧
    (∀ x p, exec (.toDualRight x p) s = .next t → t = { s with result := t.result }) ∧
    (∀ p b, exec (.bitPosition p b) s = .next t → t = { s with primResult := t.primResult }) ∧
    (∀ p b, exec (.bitMask p b) s = .next t → t = { s with primResult := t.primResult }) ∧
    (∀ x p b tg, exec (.extractAndRelocate x p b tg) s = .next t → t = { s with primResult := t.primResult })

/-- A step that is refused is refused for one of the named reasons, each with the event and the state that brought it about (R178;
the model's own: a period that is not positive, log 11; overlapping pins at ENABLE, log 12; the reset event while enabled, log 16;
step 6 before step 5, log 17; an ENABLE from a state that is not clean, log 26). No step stops for an operation outside its
selector, and no step ends in a fault (R176). -/
def Obligations.RefusalsHaveCause : Prop :=
  ∀ s : State, (∀ r : Refusal, step s = .refused r → RefusalCause r s.nextEvent.1 s) ∧ ∀ f : Fault, step s ≠ .fault f

/-- Outside its selection `exec` gives an operation no effect of its own: while disabled a Sequencer operation changes nothing;
while enabled one that `PHASE` does not select is refused; so is ENTER without a request or inside an invocation, and TAKE and
RETURN outside one or against `PENDING`; STROBE 15, which no `PHASE` selects, always is (R118, R186, R193; log 10). -/
def Obligations.UnselectedOperations : Prop :=
  ∀ s : State,
    (∀ i : Instr, (encode i).format = .seq → i.wf = true →
      (s.en = false → exec i s = .next s) ∧ (s.en = true → encode i ≠ .seq s.phase → exec i s = .refused .notSelected)) ∧
    exec (.strobe 15) s = .refused .notSelected ∧
    (s.irq = false ∨ s.pubActive = true → exec .enter s = .refused .notSelected) ∧
    (s.pubActive = false ∨ s.fifo = [] → exec .take s = .refused .notSelected) ∧
    (s.pubActive = false ∨ s.fifo ≠ [] → exec .ret s = .refused .notSelected)
end

