-- ==== Sys2Proof/Laws/Operands.lean ====
section
/-! SUPPORT. What the operand forms compute, one lemma each: the fields of `PHASE`, the index, the codes of the buttons, the shift
register. -/

namespace Sys2Proof.Machine

theorem phaseL_phaseWord (l : BitVec 1) (k : BitVec 4) (p : BitVec 1) : phaseL (phaseWord l k p) = l := by
  revert l k p; decide

theorem phaseK_phaseWord (l : BitVec 1) (k : BitVec 4) (p : BitVec 1) : phaseK (phaseWord l k p) = k := by
  revert l k p; decide

theorem phaseP_phaseWord (l : BitVec 1) (k : BitVec 4) (p : BitVec 1) : phaseP (phaseWord l k p) = p := by
  revert l k p; decide

/-- The fields of R15 determine the position. -/
theorem phaseWord_of_fields (t : Phase) : phaseWord (phaseL t) (phaseK t) (phaseP t) = t := by
  revert t; decide

/-- `PHASE` = 32 L + 2 K + P (R15). -/
theorem phaseWord_toNat (l : BitVec 1) (k : BitVec 4) (p : BitVec 1) :
    (phaseWord l k p).toNat = 32 * l.toNat + 2 * k.toNat + p.toNat := by
  revert l k p; decide

/-- The index is `2 * button + pad`; the addition never carries (R86). -/
theorem bitPos_toNat (pad : Pad) (button : ButtonCode) : (bitPos pad button).toNat = 2 * button.toNat + pad.toNat := by
  revert pad button; decide

theorem buttonCode_right : buttonCode .right = 7 := rfl

theorem buttonCode_left : buttonCode .left = 6 := rfl

theorem buttonCode_down : buttonCode .down = 5 := rfl

theorem buttonCode_up : buttonCode .up = 4 := rfl

/-- A ButtonIndex is at most 11 (R62). -/
theorem buttonCode_le (b : ButtonIndex) : (buttonCode b).toNat ≤ 11 := by
  cases b <;> decide

/-- The sample lies in bits 31:30, every earlier bit two places lower (R104). -/
theorem shiftInSample_getLsbD (sr : Word) (d : Sample) (j : Nat) :
    (shiftInSample sr d).getLsbD j = if j < 30 then sr.getLsbD (j + 2) else decide (j < 32) && d.getLsbD (j - 30) := by
  simp only [shiftInSample, BitVec.getLsbD_or, BitVec.getLsbD_shiftLeft, BitVec.getLsbD_setWidth,
    BitVec.getLsbD_ushiftRight, Nat.add_comm 2 j]
  by_cases h : j < 30
  · simp [h]
  · have hz : sr.getLsbD (j + 2) = false := BitVec.getLsbD_of_ge sr (j + 2) (by omega)
    by_cases h' : j < 32
    · have h2 : j - 30 < 32 := by omega
      simp [h, h', h2, hz]
    · simp [h, h', hz]

/-- The mask has the one bit of its index (R88). -/
theorem bitMaskOf_getLsbD (pad : Pad) (button : ButtonCode) (j : Nat) :
    (bitMaskOf pad button).getLsbD j = decide (j = 2 * button.toNat + pad.toNat) := by
  have := button.isLt
  have := pad.isLt
  simp only [bitMaskOf, bitPos_toNat]
  rw [BitVec.getLsbD_shiftLeft]
  by_cases h : j = 2 * button.toNat + pad.toNat
  · simp [h]
    omega
  · simp [h]
    omega

/-- Everything a relocation can do: the source bit at the target, 0 elsewhere (R91). -/
theorem relocate_getLsbD (x : Word) (pad : Pad) (button : ButtonCode) (t : Position) (j : Nat) :
    (relocate x pad button t).getLsbD j = (decide (j = t.toNat) && x.getLsbD (2 * button.toNat + pad.toNat)) := by
  have := button.isLt
  have := pad.isLt
  have := t.isLt
  simp only [relocate, BitVec.lt_def, bitPos_toNat]
  split
  · simp only [BitVec.getLsbD_shiftLeft, BitVec.getLsbD_and, bitMaskOf_getLsbD]
    by_cases h : j = t.toNat
    · subst h
      have : t.toNat - (t.toNat - (2 * button.toNat + pad.toNat)) = 2 * button.toNat + pad.toNat := by omega
      simp [this]
      omega
    · have : ¬ (j - (t.toNat - (2 * button.toNat + pad.toNat)) = 2 * button.toNat + pad.toNat) ∨
          j < t.toNat - (2 * button.toNat + pad.toNat) := by omega
      rcases this with h1 | h1 <;> simp [h, h1]
  · split
    · simp only [BitVec.getLsbD_ushiftRight, BitVec.getLsbD_and, bitMaskOf_getLsbD]
      by_cases h : j = t.toNat
      · subst h
        have : (2 * button.toNat + pad.toNat - t.toNat) + t.toNat = 2 * button.toNat + pad.toNat := by omega
        simp [this]
      · have : ¬ ((2 * button.toNat + pad.toNat - t.toNat) + j = 2 * button.toNat + pad.toNat) := by omega
        simp [h, this]
    · have : t.toNat = 2 * button.toNat + pad.toNat := by omega
      simp only [BitVec.getLsbD_and, bitMaskOf_getLsbD, this]
      by_cases h : j = 2 * button.toNat + pad.toNat <;> simp [h]

end Sys2Proof.Machine
end

