-- ==== Sys2Proof/Laws/State.lean ====
section
/-! SUPPORT. One lemma per field per update of the state: the written field reads as written, every other field as before. -/

namespace Sys2Proof.Machine

/-! `setEn` -/

@[simp] theorem State.setEn_en (s : State) (v : Bool) : (s.setEn v).en = v := rfl
@[simp] theorem State.setEn_phase (s : State) (v : Bool) : (s.setEn v).phase = s.phase := rfl
@[simp] theorem State.setEn_sr (s : State) (v : Bool) : (s.setEn v).sr = s.sr := rfl
@[simp] theorem State.setEn_fifo (s : State) (v : Bool) : (s.setEn v).fifo = s.fifo := rfl
@[simp] theorem State.setEn_latest (s : State) (v : Bool) : (s.setEn v).latest = s.latest := rfl
@[simp] theorem State.setEn_pubActive (s : State) (v : Bool) : (s.setEn v).pubActive = s.pubActive := rfl
@[simp] theorem State.setEn_irqEn (s : State) (v : Bool) : (s.setEn v).irqEn = s.irqEn := rfl
@[simp] theorem State.setEn_config (s : State) (v : Bool) : (s.setEn v).config = s.config := rfl
@[simp] theorem State.setEn_initDone (s : State) (v : Bool) : (s.setEn v).initDone = s.initDone := rfl
@[simp] theorem State.setEn_data (s : State) (v : Bool) : (s.setEn v).data = s.data := rfl
@[simp] theorem State.setEn_result (s : State) (v : Bool) : (s.setEn v).result = s.result := rfl
@[simp] theorem State.setEn_primResult (s : State) (v : Bool) : (s.setEn v).primResult = s.primResult := rfl
@[simp] theorem State.setEn_params (s : State) (v : Bool) : (s.setEn v).params = s.params := rfl
@[simp] theorem State.setEn_sched (s : State) (v : Bool) : (s.setEn v).sched = s.sched := rfl
@[simp] theorem State.setEn_draws (s : State) (v : Bool) : (s.setEn v).draws = s.draws := rfl

/-! `setPhase` -/

@[simp] theorem State.setPhase_en (s : State) (v : Phase) : (s.setPhase v).en = s.en := rfl
@[simp] theorem State.setPhase_phase (s : State) (v : Phase) : (s.setPhase v).phase = v := rfl
@[simp] theorem State.setPhase_sr (s : State) (v : Phase) : (s.setPhase v).sr = s.sr := rfl
@[simp] theorem State.setPhase_fifo (s : State) (v : Phase) : (s.setPhase v).fifo = s.fifo := rfl
@[simp] theorem State.setPhase_latest (s : State) (v : Phase) : (s.setPhase v).latest = s.latest := rfl
@[simp] theorem State.setPhase_pubActive (s : State) (v : Phase) : (s.setPhase v).pubActive = s.pubActive := rfl
@[simp] theorem State.setPhase_irqEn (s : State) (v : Phase) : (s.setPhase v).irqEn = s.irqEn := rfl
@[simp] theorem State.setPhase_config (s : State) (v : Phase) : (s.setPhase v).config = s.config := rfl
@[simp] theorem State.setPhase_initDone (s : State) (v : Phase) : (s.setPhase v).initDone = s.initDone := rfl
@[simp] theorem State.setPhase_data (s : State) (v : Phase) : (s.setPhase v).data = s.data := rfl
@[simp] theorem State.setPhase_result (s : State) (v : Phase) : (s.setPhase v).result = s.result := rfl
@[simp] theorem State.setPhase_primResult (s : State) (v : Phase) : (s.setPhase v).primResult = s.primResult := rfl
@[simp] theorem State.setPhase_params (s : State) (v : Phase) : (s.setPhase v).params = s.params := rfl
@[simp] theorem State.setPhase_sched (s : State) (v : Phase) : (s.setPhase v).sched = s.sched := rfl
@[simp] theorem State.setPhase_draws (s : State) (v : Phase) : (s.setPhase v).draws = s.draws := rfl

/-! `setSr` -/

@[simp] theorem State.setSr_en (s : State) (v : Word) : (s.setSr v).en = s.en := rfl
@[simp] theorem State.setSr_phase (s : State) (v : Word) : (s.setSr v).phase = s.phase := rfl
@[simp] theorem State.setSr_sr (s : State) (v : Word) : (s.setSr v).sr = v := rfl
@[simp] theorem State.setSr_fifo (s : State) (v : Word) : (s.setSr v).fifo = s.fifo := rfl
@[simp] theorem State.setSr_latest (s : State) (v : Word) : (s.setSr v).latest = s.latest := rfl
@[simp] theorem State.setSr_pubActive (s : State) (v : Word) : (s.setSr v).pubActive = s.pubActive := rfl
@[simp] theorem State.setSr_irqEn (s : State) (v : Word) : (s.setSr v).irqEn = s.irqEn := rfl
@[simp] theorem State.setSr_config (s : State) (v : Word) : (s.setSr v).config = s.config := rfl
@[simp] theorem State.setSr_initDone (s : State) (v : Word) : (s.setSr v).initDone = s.initDone := rfl
@[simp] theorem State.setSr_data (s : State) (v : Word) : (s.setSr v).data = s.data := rfl
@[simp] theorem State.setSr_result (s : State) (v : Word) : (s.setSr v).result = s.result := rfl
@[simp] theorem State.setSr_primResult (s : State) (v : Word) : (s.setSr v).primResult = s.primResult := rfl
@[simp] theorem State.setSr_params (s : State) (v : Word) : (s.setSr v).params = s.params := rfl
@[simp] theorem State.setSr_sched (s : State) (v : Word) : (s.setSr v).sched = s.sched := rfl
@[simp] theorem State.setSr_draws (s : State) (v : Word) : (s.setSr v).draws = s.draws := rfl

/-! `setFifo` -/

@[simp] theorem State.setFifo_en (s : State) (v : List Word) : (s.setFifo v).en = s.en := rfl
@[simp] theorem State.setFifo_phase (s : State) (v : List Word) : (s.setFifo v).phase = s.phase := rfl
@[simp] theorem State.setFifo_sr (s : State) (v : List Word) : (s.setFifo v).sr = s.sr := rfl
@[simp] theorem State.setFifo_fifo (s : State) (v : List Word) : (s.setFifo v).fifo = v := rfl
@[simp] theorem State.setFifo_latest (s : State) (v : List Word) : (s.setFifo v).latest = s.latest := rfl
@[simp] theorem State.setFifo_pubActive (s : State) (v : List Word) : (s.setFifo v).pubActive = s.pubActive := rfl
@[simp] theorem State.setFifo_irqEn (s : State) (v : List Word) : (s.setFifo v).irqEn = s.irqEn := rfl
@[simp] theorem State.setFifo_config (s : State) (v : List Word) : (s.setFifo v).config = s.config := rfl
@[simp] theorem State.setFifo_initDone (s : State) (v : List Word) : (s.setFifo v).initDone = s.initDone := rfl
@[simp] theorem State.setFifo_data (s : State) (v : List Word) : (s.setFifo v).data = s.data := rfl
@[simp] theorem State.setFifo_result (s : State) (v : List Word) : (s.setFifo v).result = s.result := rfl
@[simp] theorem State.setFifo_primResult (s : State) (v : List Word) : (s.setFifo v).primResult = s.primResult := rfl
@[simp] theorem State.setFifo_params (s : State) (v : List Word) : (s.setFifo v).params = s.params := rfl
@[simp] theorem State.setFifo_sched (s : State) (v : List Word) : (s.setFifo v).sched = s.sched := rfl
@[simp] theorem State.setFifo_draws (s : State) (v : List Word) : (s.setFifo v).draws = s.draws := rfl

/-! `setLatest` -/

@[simp] theorem State.setLatest_en (s : State) (v : Word) : (s.setLatest v).en = s.en := rfl
@[simp] theorem State.setLatest_phase (s : State) (v : Word) : (s.setLatest v).phase = s.phase := rfl
@[simp] theorem State.setLatest_sr (s : State) (v : Word) : (s.setLatest v).sr = s.sr := rfl
@[simp] theorem State.setLatest_fifo (s : State) (v : Word) : (s.setLatest v).fifo = s.fifo := rfl
@[simp] theorem State.setLatest_latest (s : State) (v : Word) : (s.setLatest v).latest = v := rfl
@[simp] theorem State.setLatest_pubActive (s : State) (v : Word) : (s.setLatest v).pubActive = s.pubActive := rfl
@[simp] theorem State.setLatest_irqEn (s : State) (v : Word) : (s.setLatest v).irqEn = s.irqEn := rfl
@[simp] theorem State.setLatest_config (s : State) (v : Word) : (s.setLatest v).config = s.config := rfl
@[simp] theorem State.setLatest_initDone (s : State) (v : Word) : (s.setLatest v).initDone = s.initDone := rfl
@[simp] theorem State.setLatest_data (s : State) (v : Word) : (s.setLatest v).data = s.data := rfl
@[simp] theorem State.setLatest_result (s : State) (v : Word) : (s.setLatest v).result = s.result := rfl
@[simp] theorem State.setLatest_primResult (s : State) (v : Word) : (s.setLatest v).primResult = s.primResult := rfl
@[simp] theorem State.setLatest_params (s : State) (v : Word) : (s.setLatest v).params = s.params := rfl
@[simp] theorem State.setLatest_sched (s : State) (v : Word) : (s.setLatest v).sched = s.sched := rfl
@[simp] theorem State.setLatest_draws (s : State) (v : Word) : (s.setLatest v).draws = s.draws := rfl

/-! `setPubActive` -/

@[simp] theorem State.setPubActive_en (s : State) (v : Bool) : (s.setPubActive v).en = s.en := rfl
@[simp] theorem State.setPubActive_phase (s : State) (v : Bool) : (s.setPubActive v).phase = s.phase := rfl
@[simp] theorem State.setPubActive_sr (s : State) (v : Bool) : (s.setPubActive v).sr = s.sr := rfl
@[simp] theorem State.setPubActive_fifo (s : State) (v : Bool) : (s.setPubActive v).fifo = s.fifo := rfl
@[simp] theorem State.setPubActive_latest (s : State) (v : Bool) : (s.setPubActive v).latest = s.latest := rfl
@[simp] theorem State.setPubActive_pubActive (s : State) (v : Bool) : (s.setPubActive v).pubActive = v := rfl
@[simp] theorem State.setPubActive_irqEn (s : State) (v : Bool) : (s.setPubActive v).irqEn = s.irqEn := rfl
@[simp] theorem State.setPubActive_config (s : State) (v : Bool) : (s.setPubActive v).config = s.config := rfl
@[simp] theorem State.setPubActive_initDone (s : State) (v : Bool) : (s.setPubActive v).initDone = s.initDone := rfl
@[simp] theorem State.setPubActive_data (s : State) (v : Bool) : (s.setPubActive v).data = s.data := rfl
@[simp] theorem State.setPubActive_result (s : State) (v : Bool) : (s.setPubActive v).result = s.result := rfl
@[simp] theorem State.setPubActive_primResult (s : State) (v : Bool) : (s.setPubActive v).primResult = s.primResult := rfl
@[simp] theorem State.setPubActive_params (s : State) (v : Bool) : (s.setPubActive v).params = s.params := rfl
@[simp] theorem State.setPubActive_sched (s : State) (v : Bool) : (s.setPubActive v).sched = s.sched := rfl
@[simp] theorem State.setPubActive_draws (s : State) (v : Bool) : (s.setPubActive v).draws = s.draws := rfl

/-! `setIrqEn` -/

@[simp] theorem State.setIrqEn_en (s : State) (v : Bool) : (s.setIrqEn v).en = s.en := rfl
@[simp] theorem State.setIrqEn_phase (s : State) (v : Bool) : (s.setIrqEn v).phase = s.phase := rfl
@[simp] theorem State.setIrqEn_sr (s : State) (v : Bool) : (s.setIrqEn v).sr = s.sr := rfl
@[simp] theorem State.setIrqEn_fifo (s : State) (v : Bool) : (s.setIrqEn v).fifo = s.fifo := rfl
@[simp] theorem State.setIrqEn_latest (s : State) (v : Bool) : (s.setIrqEn v).latest = s.latest := rfl
@[simp] theorem State.setIrqEn_pubActive (s : State) (v : Bool) : (s.setIrqEn v).pubActive = s.pubActive := rfl
@[simp] theorem State.setIrqEn_irqEn (s : State) (v : Bool) : (s.setIrqEn v).irqEn = v := rfl
@[simp] theorem State.setIrqEn_config (s : State) (v : Bool) : (s.setIrqEn v).config = s.config := rfl
@[simp] theorem State.setIrqEn_initDone (s : State) (v : Bool) : (s.setIrqEn v).initDone = s.initDone := rfl
@[simp] theorem State.setIrqEn_data (s : State) (v : Bool) : (s.setIrqEn v).data = s.data := rfl
@[simp] theorem State.setIrqEn_result (s : State) (v : Bool) : (s.setIrqEn v).result = s.result := rfl
@[simp] theorem State.setIrqEn_primResult (s : State) (v : Bool) : (s.setIrqEn v).primResult = s.primResult := rfl
@[simp] theorem State.setIrqEn_params (s : State) (v : Bool) : (s.setIrqEn v).params = s.params := rfl
@[simp] theorem State.setIrqEn_sched (s : State) (v : Bool) : (s.setIrqEn v).sched = s.sched := rfl
@[simp] theorem State.setIrqEn_draws (s : State) (v : Bool) : (s.setIrqEn v).draws = s.draws := rfl

/-! `setConfig` -/

@[simp] theorem State.setConfig_en (s : State) (v : ConfigRegs) : (s.setConfig v).en = s.en := rfl
@[simp] theorem State.setConfig_phase (s : State) (v : ConfigRegs) : (s.setConfig v).phase = s.phase := rfl
@[simp] theorem State.setConfig_sr (s : State) (v : ConfigRegs) : (s.setConfig v).sr = s.sr := rfl
@[simp] theorem State.setConfig_fifo (s : State) (v : ConfigRegs) : (s.setConfig v).fifo = s.fifo := rfl
@[simp] theorem State.setConfig_latest (s : State) (v : ConfigRegs) : (s.setConfig v).latest = s.latest := rfl
@[simp] theorem State.setConfig_pubActive (s : State) (v : ConfigRegs) : (s.setConfig v).pubActive = s.pubActive := rfl
@[simp] theorem State.setConfig_irqEn (s : State) (v : ConfigRegs) : (s.setConfig v).irqEn = s.irqEn := rfl
@[simp] theorem State.setConfig_config (s : State) (v : ConfigRegs) : (s.setConfig v).config = v := rfl
@[simp] theorem State.setConfig_initDone (s : State) (v : ConfigRegs) : (s.setConfig v).initDone = s.initDone := rfl
@[simp] theorem State.setConfig_data (s : State) (v : ConfigRegs) : (s.setConfig v).data = s.data := rfl
@[simp] theorem State.setConfig_result (s : State) (v : ConfigRegs) : (s.setConfig v).result = s.result := rfl
@[simp] theorem State.setConfig_primResult (s : State) (v : ConfigRegs) : (s.setConfig v).primResult = s.primResult := rfl
@[simp] theorem State.setConfig_params (s : State) (v : ConfigRegs) : (s.setConfig v).params = s.params := rfl
@[simp] theorem State.setConfig_sched (s : State) (v : ConfigRegs) : (s.setConfig v).sched = s.sched := rfl
@[simp] theorem State.setConfig_draws (s : State) (v : ConfigRegs) : (s.setConfig v).draws = s.draws := rfl

/-! `setInitDone` -/

@[simp] theorem State.setInitDone_en (s : State) (v : InitDone) : (s.setInitDone v).en = s.en := rfl
@[simp] theorem State.setInitDone_phase (s : State) (v : InitDone) : (s.setInitDone v).phase = s.phase := rfl
@[simp] theorem State.setInitDone_sr (s : State) (v : InitDone) : (s.setInitDone v).sr = s.sr := rfl
@[simp] theorem State.setInitDone_fifo (s : State) (v : InitDone) : (s.setInitDone v).fifo = s.fifo := rfl
@[simp] theorem State.setInitDone_latest (s : State) (v : InitDone) : (s.setInitDone v).latest = s.latest := rfl
@[simp] theorem State.setInitDone_pubActive (s : State) (v : InitDone) : (s.setInitDone v).pubActive = s.pubActive := rfl
@[simp] theorem State.setInitDone_irqEn (s : State) (v : InitDone) : (s.setInitDone v).irqEn = s.irqEn := rfl
@[simp] theorem State.setInitDone_config (s : State) (v : InitDone) : (s.setInitDone v).config = s.config := rfl
@[simp] theorem State.setInitDone_initDone (s : State) (v : InitDone) : (s.setInitDone v).initDone = v := rfl
@[simp] theorem State.setInitDone_data (s : State) (v : InitDone) : (s.setInitDone v).data = s.data := rfl
@[simp] theorem State.setInitDone_result (s : State) (v : InitDone) : (s.setInitDone v).result = s.result := rfl
@[simp] theorem State.setInitDone_primResult (s : State) (v : InitDone) : (s.setInitDone v).primResult = s.primResult := rfl
@[simp] theorem State.setInitDone_params (s : State) (v : InitDone) : (s.setInitDone v).params = s.params := rfl
@[simp] theorem State.setInitDone_sched (s : State) (v : InitDone) : (s.setInitDone v).sched = s.sched := rfl
@[simp] theorem State.setInitDone_draws (s : State) (v : InitDone) : (s.setInitDone v).draws = s.draws := rfl

/-! `setData` -/

@[simp] theorem State.setData_en (s : State) (v : Sample) : (s.setData v).en = s.en := rfl
@[simp] theorem State.setData_phase (s : State) (v : Sample) : (s.setData v).phase = s.phase := rfl
@[simp] theorem State.setData_sr (s : State) (v : Sample) : (s.setData v).sr = s.sr := rfl
@[simp] theorem State.setData_fifo (s : State) (v : Sample) : (s.setData v).fifo = s.fifo := rfl
@[simp] theorem State.setData_latest (s : State) (v : Sample) : (s.setData v).latest = s.latest := rfl
@[simp] theorem State.setData_pubActive (s : State) (v : Sample) : (s.setData v).pubActive = s.pubActive := rfl
@[simp] theorem State.setData_irqEn (s : State) (v : Sample) : (s.setData v).irqEn = s.irqEn := rfl
@[simp] theorem State.setData_config (s : State) (v : Sample) : (s.setData v).config = s.config := rfl
@[simp] theorem State.setData_initDone (s : State) (v : Sample) : (s.setData v).initDone = s.initDone := rfl
@[simp] theorem State.setData_data (s : State) (v : Sample) : (s.setData v).data = v := rfl
@[simp] theorem State.setData_result (s : State) (v : Sample) : (s.setData v).result = s.result := rfl
@[simp] theorem State.setData_primResult (s : State) (v : Sample) : (s.setData v).primResult = s.primResult := rfl
@[simp] theorem State.setData_params (s : State) (v : Sample) : (s.setData v).params = s.params := rfl
@[simp] theorem State.setData_sched (s : State) (v : Sample) : (s.setData v).sched = s.sched := rfl
@[simp] theorem State.setData_draws (s : State) (v : Sample) : (s.setData v).draws = s.draws := rfl

/-! `setResult` -/

@[simp] theorem State.setResult_en (s : State) (v : FnResult) : (s.setResult v).en = s.en := rfl
@[simp] theorem State.setResult_phase (s : State) (v : FnResult) : (s.setResult v).phase = s.phase := rfl
@[simp] theorem State.setResult_sr (s : State) (v : FnResult) : (s.setResult v).sr = s.sr := rfl
@[simp] theorem State.setResult_fifo (s : State) (v : FnResult) : (s.setResult v).fifo = s.fifo := rfl
@[simp] theorem State.setResult_latest (s : State) (v : FnResult) : (s.setResult v).latest = s.latest := rfl
@[simp] theorem State.setResult_pubActive (s : State) (v : FnResult) : (s.setResult v).pubActive = s.pubActive := rfl
@[simp] theorem State.setResult_irqEn (s : State) (v : FnResult) : (s.setResult v).irqEn = s.irqEn := rfl
@[simp] theorem State.setResult_config (s : State) (v : FnResult) : (s.setResult v).config = s.config := rfl
@[simp] theorem State.setResult_initDone (s : State) (v : FnResult) : (s.setResult v).initDone = s.initDone := rfl
@[simp] theorem State.setResult_data (s : State) (v : FnResult) : (s.setResult v).data = s.data := rfl
@[simp] theorem State.setResult_result (s : State) (v : FnResult) : (s.setResult v).result = v := rfl
@[simp] theorem State.setResult_primResult (s : State) (v : FnResult) : (s.setResult v).primResult = s.primResult := rfl
@[simp] theorem State.setResult_params (s : State) (v : FnResult) : (s.setResult v).params = s.params := rfl
@[simp] theorem State.setResult_sched (s : State) (v : FnResult) : (s.setResult v).sched = s.sched := rfl
@[simp] theorem State.setResult_draws (s : State) (v : FnResult) : (s.setResult v).draws = s.draws := rfl

/-! `setPrimResult` -/

@[simp] theorem State.setPrimResult_en (s : State) (v : PrimResult) : (s.setPrimResult v).en = s.en := rfl
@[simp] theorem State.setPrimResult_phase (s : State) (v : PrimResult) : (s.setPrimResult v).phase = s.phase := rfl
@[simp] theorem State.setPrimResult_sr (s : State) (v : PrimResult) : (s.setPrimResult v).sr = s.sr := rfl
@[simp] theorem State.setPrimResult_fifo (s : State) (v : PrimResult) : (s.setPrimResult v).fifo = s.fifo := rfl
@[simp] theorem State.setPrimResult_latest (s : State) (v : PrimResult) : (s.setPrimResult v).latest = s.latest := rfl
@[simp] theorem State.setPrimResult_pubActive (s : State) (v : PrimResult) : (s.setPrimResult v).pubActive = s.pubActive := rfl
@[simp] theorem State.setPrimResult_irqEn (s : State) (v : PrimResult) : (s.setPrimResult v).irqEn = s.irqEn := rfl
@[simp] theorem State.setPrimResult_config (s : State) (v : PrimResult) : (s.setPrimResult v).config = s.config := rfl
@[simp] theorem State.setPrimResult_initDone (s : State) (v : PrimResult) : (s.setPrimResult v).initDone = s.initDone := rfl
@[simp] theorem State.setPrimResult_data (s : State) (v : PrimResult) : (s.setPrimResult v).data = s.data := rfl
@[simp] theorem State.setPrimResult_result (s : State) (v : PrimResult) : (s.setPrimResult v).result = s.result := rfl
@[simp] theorem State.setPrimResult_primResult (s : State) (v : PrimResult) : (s.setPrimResult v).primResult = v := rfl
@[simp] theorem State.setPrimResult_params (s : State) (v : PrimResult) : (s.setPrimResult v).params = s.params := rfl
@[simp] theorem State.setPrimResult_sched (s : State) (v : PrimResult) : (s.setPrimResult v).sched = s.sched := rfl
@[simp] theorem State.setPrimResult_draws (s : State) (v : PrimResult) : (s.setPrimResult v).draws = s.draws := rfl

/-! `setSched` -/

@[simp] theorem State.setSched_en (s : State) (v : List Event) : (s.setSched v).en = s.en := rfl
@[simp] theorem State.setSched_phase (s : State) (v : List Event) : (s.setSched v).phase = s.phase := rfl
@[simp] theorem State.setSched_sr (s : State) (v : List Event) : (s.setSched v).sr = s.sr := rfl
@[simp] theorem State.setSched_fifo (s : State) (v : List Event) : (s.setSched v).fifo = s.fifo := rfl
@[simp] theorem State.setSched_latest (s : State) (v : List Event) : (s.setSched v).latest = s.latest := rfl
@[simp] theorem State.setSched_pubActive (s : State) (v : List Event) : (s.setSched v).pubActive = s.pubActive := rfl
@[simp] theorem State.setSched_irqEn (s : State) (v : List Event) : (s.setSched v).irqEn = s.irqEn := rfl
@[simp] theorem State.setSched_config (s : State) (v : List Event) : (s.setSched v).config = s.config := rfl
@[simp] theorem State.setSched_initDone (s : State) (v : List Event) : (s.setSched v).initDone = s.initDone := rfl
@[simp] theorem State.setSched_data (s : State) (v : List Event) : (s.setSched v).data = s.data := rfl
@[simp] theorem State.setSched_result (s : State) (v : List Event) : (s.setSched v).result = s.result := rfl
@[simp] theorem State.setSched_primResult (s : State) (v : List Event) : (s.setSched v).primResult = s.primResult := rfl
@[simp] theorem State.setSched_params (s : State) (v : List Event) : (s.setSched v).params = s.params := rfl
@[simp] theorem State.setSched_sched (s : State) (v : List Event) : (s.setSched v).sched = v := rfl
@[simp] theorem State.setSched_draws (s : State) (v : List Event) : (s.setSched v).draws = s.draws := rfl

/-! `setDraws` -/

@[simp] theorem State.setDraws_en (s : State) (v : Nat) : (s.setDraws v).en = s.en := rfl
@[simp] theorem State.setDraws_phase (s : State) (v : Nat) : (s.setDraws v).phase = s.phase := rfl
@[simp] theorem State.setDraws_sr (s : State) (v : Nat) : (s.setDraws v).sr = s.sr := rfl
@[simp] theorem State.setDraws_fifo (s : State) (v : Nat) : (s.setDraws v).fifo = s.fifo := rfl
@[simp] theorem State.setDraws_latest (s : State) (v : Nat) : (s.setDraws v).latest = s.latest := rfl
@[simp] theorem State.setDraws_pubActive (s : State) (v : Nat) : (s.setDraws v).pubActive = s.pubActive := rfl
@[simp] theorem State.setDraws_irqEn (s : State) (v : Nat) : (s.setDraws v).irqEn = s.irqEn := rfl
@[simp] theorem State.setDraws_config (s : State) (v : Nat) : (s.setDraws v).config = s.config := rfl
@[simp] theorem State.setDraws_initDone (s : State) (v : Nat) : (s.setDraws v).initDone = s.initDone := rfl
@[simp] theorem State.setDraws_data (s : State) (v : Nat) : (s.setDraws v).data = s.data := rfl
@[simp] theorem State.setDraws_result (s : State) (v : Nat) : (s.setDraws v).result = s.result := rfl
@[simp] theorem State.setDraws_primResult (s : State) (v : Nat) : (s.setDraws v).primResult = s.primResult := rfl
@[simp] theorem State.setDraws_params (s : State) (v : Nat) : (s.setDraws v).params = s.params := rfl
@[simp] theorem State.setDraws_sched (s : State) (v : Nat) : (s.setDraws v).sched = s.sched := rfl
@[simp] theorem State.setDraws_draws (s : State) (v : Nat) : (s.setDraws v).draws = v := rfl

end Sys2Proof.Machine
end

