-- ==== Sys2Proof/Laws/Ops.lean ====
section
/-! SUPPORT. What each shared operation and each guarded meaning can do, once: when it answers a next state, and which. -/

namespace Sys2Proof.Machine

/-- The successor in numbers: 33 to 0, 31 to 32, otherwise one more (R15). -/
theorem nextPhase_toNat (t : Phase) (h : t.toNat ≤ 33) :
    (nextPhase t).toNat = if t.toNat = 33 then 0 else if t.toNat = 31 then 32 else t.toNat + 1 := by
  revert t; decide

/-- `next` maps 0 to 33 into 0 to 33 (R72). -/
theorem nextPhase_legal (t : Phase) (h : t.toNat ≤ 33) : (nextPhase t).toNat ≤ 33 := by
  revert t; decide

theorem State.advance_eq (s : State) : s.advance = s.setPhase (nextPhase s.phase) := rfl

theorem State.pushWord_eq (s : State) (v : Word) : s.pushWord v = s.setFifo (s.fifo ++ [v]) := rfl

theorem State.popWord_nil (s : State) (h : s.fifo = []) : s.popWord = none := by
  simp [State.popWord, h]

theorem State.popWord_cons (s : State) (w : Word) (rest : List Word) (h : s.fifo = w :: rest) :
    s.popWord = some (w, s.setFifo rest) := by
  simp [State.popWord, h]

theorem State.hasRoom_iff (s : State) : s.hasRoom = true ↔ s.fifo.length < s.params.fifoDepth := by
  simp [State.hasRoom]

theorem State.pending_iff (s : State) : s.pending = true ↔ s.fifo ≠ [] := by
  simp [State.pending, List.length_pos_iff]

theorem State.irq_iff (s : State) : s.irq = true ↔ s.fifo ≠ [] ∧ s.irqEn = true := by
  simp [State.irq, State.pending_iff]

/-- `CLK` in numbers: enabled, at an odd position below 32 (R17). -/
theorem State.clk_eq (s : State) :
    s.clk = (s.en && decide (s.phase.toNat < 32) && decide (s.phase.toNat % 2 = 1)) := by
  have key : ∀ t : Phase, ((phaseL t == 0) && (phaseP t == 1)) = (decide (t.toNat < 32) && decide (t.toNat % 2 = 1)) := by
    decide
  simp only [State.clk, Bool.and_assoc, key]

/-- `LATCH` in numbers: enabled, at a position from 32 on (R18). -/
theorem State.latch_eq (s : State) : s.latch = (s.en && decide (32 ≤ s.phase.toNat)) := by
  have key : ∀ t : Phase, (phaseL t == 1) = decide (32 ≤ t.toNat) := by decide
  simp only [State.latch, key]

/-- A push with room keeps the queue within its depth (R21, R43). -/
theorem State.pushWord_fits (s : State) (v : Word) (h : s.hasRoom = true) :
    (s.pushWord v).fifo.length ≤ (s.pushWord v).params.fifoDepth := by
  have := s.hasRoom_iff.1 h
  simp [State.pushWord_eq]
  omega

/-- A pop keeps the queue within its depth (R21, R44). -/
theorem State.popWord_fits (s t : State) (w : Word) (h : s.popWord = some (w, t))
    (hs : s.fifo.length ≤ s.params.fifoDepth) : t.fifo.length ≤ t.params.fifoDepth := by
  cases hf : s.fifo with
  | nil => simp [State.popWord_nil s hf] at h
  | cons v rest =>
    rw [State.popWord_cons s v rest hf] at h
    cases h
    simp [hf] at hs ⊢
    omega

theorem State.onPhase_selected (s : State) (sel : Phase) (f : State → State) (h : s.en = true) (hp : s.phase = sel) :
    s.onPhase sel f = .next (f s) := by
  simp [State.onPhase, h, hp]

/-- A Sequencer operation completes: unchanged while disabled, its effect when selected. -/
theorem State.onPhase_next (s t : State) (sel : Phase) (f : State → State) :
    s.onPhase sel f = .next t ↔ (s.en = false ∧ t = s) ∨ (s.en = true ∧ s.phase = sel ∧ t = f s) := by
  unfold State.onPhase
  cases s.en
  · simp [eq_comm]
  · by_cases h : s.phase = sel <;> simp [h, eq_comm]

/-- STROBE_PUSH pushes, waits or drops (R107, R108). -/
theorem State.strobePush_cases (s : State) :
    (s.hasRoom = true ∧ s.strobePush = (s.pushWord s.sr).advance) ∨
    (s.hasRoom = false ∧ s.params.fullPolicy = .stall ∧ s.strobePush = s) ∨
    (s.hasRoom = false ∧ s.params.fullPolicy = .dropNew ∧ s.strobePush = s.advance) := by
  unfold State.strobePush
  cases s.hasRoom <;> cases s.params.fullPolicy <;> simp

theorem execEnter_next (s t : State) :
    execEnter s = .next t ↔ s.irq = true ∧ s.pubActive = false ∧ t = s.takeInterrupt := by
  unfold execEnter
  cases s.irq <;> cases s.pubActive <;> simp [eq_comm]

theorem execTake_next (s t : State) :
    execTake s = .next t ↔
      s.pubActive = true ∧ ∃ w rest, s.fifo = w :: rest ∧ t = (s.setFifo rest).setLatest (~~~w) := by
  unfold execTake
  cases hp : s.pubActive
  · simp
  · cases hf : s.fifo with
    | nil => simp [State.popWord_nil s hf]
    | cons w rest => simp [State.popWord_cons s w rest hf, eq_comm]

theorem execRet_next (s t : State) :
    execRet s = .next t ↔ s.pubActive = true ∧ s.fifo = [] ∧ t = s.returnFromInterrupt := by
  unfold execRet
  cases hf : s.fifo with
  | nil =>
    have hp : s.pending = false := by simp [State.pending, hf]
    cases s.pubActive <;> simp [hp, eq_comm]
  | cons w rest =>
    have hp : s.pending = true := by simp [State.pending, hf]
    simp [hp]

theorem execEnable_next (s t : State) :
    execEnable s = .next t ↔ s.en = false ∧ s.initialised = true ∧ s.pinsDistinct = true ∧ s.cleanEntry = true ∧
      t = s.setEn true := by
  unfold execEnable
  cases s.en <;> cases s.initialised <;> cases s.pinsDistinct <;> cases s.cleanEntry <;> simp [eq_comm]

theorem State.cleanEntry_iff (s : State) :
    s.cleanEntry = true ↔ s.phase = 32 ∧ s.sr = 0 ∧ s.fifo = [] ∧ s.latest = 0 ∧ s.pubActive = false := by
  simp [State.cleanEntry, and_assoc]

theorem resetEvent_next (s t : State) : resetEvent s = .next t ↔ s.en = false ∧ t = s.resetBlock := by
  unfold resetEvent
  cases s.en <;> simp [eq_comm]

/-- The state an initialisation step leaves (R206). -/
theorem initEvent_next (a : InitStep) (s t : State) (h : initEvent a s = .next t) :
    s.en = false ∧
      ((∃ pin, a = .dataBase pin ∧ t = s.initDataBase pin) ∨ (∃ pin, a = .clkBase pin ∧ t = s.initClkBase pin) ∨
        (∃ p, a = .period p ∧ periodPositive p = true ∧ t = s.initPeriod p) ∨ (a = .program ∧ t = s.initProgram) ∨
        (a = .cell ∧ t = s.initCell) ∨ (a = .handler ∧ s.initDone.cell = true ∧ t = s.initHandler)) := by
  unfold initEvent at h
  cases hen : s.en
  · rw [hen] at h
    cases a with
    | period p => cases hp : periodPositive p <;> simp_all
    | handler => cases hc : s.initDone.cell <;> simp_all
    | _ => simp_all
  · simp [hen] at h

end Sys2Proof.Machine
end

