-- ==== Sys2Proof/Laws/PerInstr.lean ====
section
/-! SUPPORT. The statement made of every instruction as syntax, one lemma per constructor: its selector is accepted by the row of
the opcode table that has its mnemonic, and by no earlier row (R73 to R76). -/

namespace Sys2Proof.Laws.MatchesTable

/-- The first row of the table that accepts the instruction's selector is the row with the instruction's mnemonic. -/
def Statement (i : Instr) : Prop :=
  i.wf = true → (opcodeTable.find? (fun r => r.accepts (encode i))).map OpcodeRow.mnemonic = some i.mnemonic

theorem latch (p : BitVec 1) : Statement (.latch p) := by
  revert p
  unfold Statement
  decide

theorem settle (k : BitVec 4) : Statement (.settle k) := by
  revert k
  unfold Statement
  decide

theorem strobe (k : BitVec 4) : Statement (.strobe k) := by
  revert k
  unfold Statement
  decide

theorem strobePush : Statement (.strobePush) := by
  intro _
  rfl

theorem enable : Statement (.enable) := by
  intro _
  rfl

theorem enter : Statement (.enter) := by
  intro _
  rfl

theorem take : Statement (.take) := by
  intro _
  rfl

theorem ret : Statement (.ret) := by
  intro _
  rfl

theorem currentState : Statement (.currentState) := by
  intro _
  rfl

theorem toSingleStick (stateIn : Word) (pad : Pad) : Statement (.toSingleStick stateIn pad) := by
  intro _
  simp [opcodeTable, OpcodeRow.accepts, encode, Selector.format, Selector.bits, Instr.mnemonic]

theorem toDualLeft (stateIn : Word) (pad : Pad) : Statement (.toDualLeft stateIn pad) := by
  intro _
  simp [opcodeTable, OpcodeRow.accepts, encode, Selector.format, Selector.bits, Instr.mnemonic]

theorem toDualRight (stateIn : Word) (pad : Pad) : Statement (.toDualRight stateIn pad) := by
  intro _
  simp [opcodeTable, OpcodeRow.accepts, encode, Selector.format, Selector.bits, Instr.mnemonic]

theorem bitPosition (pad : Pad) (button : ButtonCode) : Statement (.bitPosition pad button) := by
  intro _
  simp [opcodeTable, OpcodeRow.accepts, encode, Selector.format, Selector.bits, Instr.mnemonic]

theorem bitMask (pad : Pad) (button : ButtonCode) : Statement (.bitMask pad button) := by
  intro _
  simp [opcodeTable, OpcodeRow.accepts, encode, Selector.format, Selector.bits, Instr.mnemonic]

theorem extractAndRelocate (stateIn : Word) (pad : Pad) (button : ButtonCode) (target : Position) : Statement (.extractAndRelocate stateIn pad button target) := by
  intro _
  simp [opcodeTable, OpcodeRow.accepts, encode, Selector.format, Selector.bits, Instr.mnemonic]

end Sys2Proof.Laws.MatchesTable
end

