-- ==== Sys2Proof/Laws/Step.lean ====
section
/-! SUPPORT. What a step can do, once per kind of event: the state it leaves when it answers one. Invariants and frames are
derived from these lemmas without unfolding the step again. -/

namespace Sys2Proof.Machine

theorem State.phaseReserved_iff (s : State) : s.phaseReserved = true ↔ 34 ≤ s.phase.toNat := by
  simp [State.phaseReserved]

theorem State.phaseReserved_eq_false (s : State) (hp : s.phase.toNat ≤ 33) : s.phaseReserved = false := by
  simp [State.phaseReserved]
  omega

/-- A state with a reserved `PHASE` has no step (R72, R178). -/
theorem step_reserved (s : State) (hp : 34 ≤ s.phase.toNat) : step s = .refused .reservedPhase := by
  simp [step, stepOnce, (s.phaseReserved_iff).2 hp]

/-- A step at a legal `PHASE` runs the next event. -/
theorem step_eq (s : State) (hp : s.phase.toNat ≤ 33) :
    step s = runEvent s.nextEvent.1 (s.nextEvent.2.drive s.nextEvent.1) := by
  simp [step, stepOnce, s.phaseReserved_eq_false hp]

/-- A step that answers a next state met a legal `PHASE` and ran the next event. -/
theorem step_next (s t : State) (h : step s = .next t) :
    s.phase.toNat ≤ 33 ∧ runEvent s.nextEvent.1 (s.nextEvent.2.drive s.nextEvent.1) = .next t := by
  by_cases hp : s.phase.toNat ≤ 33
  · rw [step_eq s hp] at h
    exact ⟨hp, h⟩
  · rw [step_reserved s (by omega)] at h
    cases h

theorem step_listed (s : State) (e : Event) (rest : List Event) (hp : s.phase.toNat ≤ 33) (h : s.sched = e :: rest) :
    step s = runEvent e ((s.setSched rest).drive e) := by
  rw [step_eq s hp]
  simp [State.nextEvent, h]

theorem step_free (s : State) (hp : s.phase.toNat ≤ 33) (h : s.sched = []) :
    step s = runEvent (Config.freeEvent s.draws) ((s.setDraws (s.draws + 1)).drive (Config.freeEvent s.draws)) := by
  rw [step_eq s hp]
  simp [State.nextEvent, h]

theorem State.nextEvent_listed (s : State) (e : Event) (rest : List Event) (h : s.sched = e :: rest) :
    s.nextEvent = (e, s.setSched rest) := by
  simp [State.nextEvent, h]

/-- Taking the next event off and driving the ports touches the schedule, the counter of free events and the data port only. -/
theorem State.met_eq (s : State) : ∃ sched draws data,
    s.nextEvent.2.drive s.nextEvent.1 = { s with sched := sched, draws := draws, data := data } := by
  have hd : ∀ (t : State) (e : Event), ∃ data, t.drive e = { t with data := data } := by
    intro t e
    cases e <;> exact ⟨_, rfl⟩
  obtain ⟨data, h⟩ := hd s.nextEvent.2 s.nextEvent.1
  rw [h]
  unfold State.nextEvent
  cases hs : s.sched with
  | nil => exact ⟨[], s.draws + 1, data, by simp [State.setDraws, hs]⟩
  | cons e rest => exact ⟨rest, s.draws, data, rfl⟩

/-- What `PHASE` selects, in numbers (R73). -/
theorem decodeSeq_legal (t : Phase) (h : t.toNat ≤ 33) :
    decodeSeq t = .ok (
      if t.toNat = 32 then .latch 0 else if t.toNat = 33 then .latch 1 else if t.toNat = 31 then .strobePush
      else if t.toNat % 2 = 0 then .settle (BitVec.ofNat 4 (t.toNat / 2)) else .strobe (BitVec.ofNat 4 (t.toNat / 2))) := by
  revert t; decide

theorem decodeSeq_reserved (t : Phase) (h : 34 ≤ t.toNat) : decodeSeq t = .error .reservedPhase := by
  revert t; decide

theorem runTick_disabled (d : Sample) (s : State) (h : s.en = false) : runEvent (.tick d) s = .next s := by
  simp [runEvent, State.presented, h, runSelected]

/-- The effect of a tick while enabled, by `PHASE` (R102). -/
def tickEffect (s : State) : State :=
  if s.phase.toNat = 31 then s.strobePush
  else if s.phase.toNat < 32 ∧ s.phase.toNat % 2 = 0 then s.settle
  else s.advance

/-- A tick's effect touches `PHASE` and `SR`, or pushes `SR` and moves on (R13, R43). -/
theorem tickEffect_cases (s : State) :
    (∃ phase sr, tickEffect s = { s with phase := phase, sr := sr }) ∨
    (s.phase.toNat = 31 ∧ s.hasRoom = true ∧
      tickEffect s = { s with phase := nextPhase s.phase, fifo := s.fifo ++ [s.sr] }) := by
  unfold tickEffect
  split
  · rcases s.strobePush_cases with ⟨a, b⟩ | ⟨_, _, c⟩ | ⟨_, _, c⟩
    · exact .inr ⟨by assumption, a, by rw [b]; rfl⟩
    · exact .inl ⟨_, _, by rw [c]⟩
    · exact .inl ⟨_, _, by rw [c]; rfl⟩
  · split <;> exact .inl ⟨_, _, rfl⟩

/-- A tick's effect on `PHASE`: its successor, except in the stall (R15, R108). -/
theorem tickEffect_phase (s : State) :
    (tickEffect s).phase =
      if s.phase.toNat = 31 ∧ s.hasRoom = false ∧ s.params.fullPolicy = .stall then s.phase else nextPhase s.phase := by
  unfold tickEffect
  split
  · rename_i h31
    rcases s.strobePush_cases with ⟨a, b⟩ | ⟨a, b, c⟩ | ⟨a, b, c⟩
    · rw [b]
      simp [State.advance_eq, State.pushWord_eq, a]
    · rw [c]
      simp [h31, a, b]
    · rw [c]
      simp [h31, a, b, State.advance_eq]
  · rename_i h31
    split <;> simp [h31, State.settle, State.advance_eq]

/-- A tick while enabled at a legal `PHASE` completes with its effect (R100, R102). -/
theorem runTick_enabled (d : Sample) (s : State) (h : s.en = true) (hp : s.phase.toNat ≤ 33) :
    runEvent (.tick d) s = .next (tickEffect s) := by
  have key : ∀ t : Phase, t.toNat ≤ 33 →
      (t.toNat = 32 → t = phaseWord 1 0 0) ∧ (t.toNat = 33 → t = phaseWord 1 0 1) ∧ (t.toNat = 31 → t = phaseWord 0 15 1) ∧
      (t.toNat < 31 → t.toNat % 2 = 0 → t = phaseWord 0 (BitVec.ofNat 4 (t.toNat / 2)) 0) ∧
      (t.toNat < 31 → t.toNat % 2 = 1 →
        t = phaseWord 0 (BitVec.ofNat 4 (t.toNat / 2)) 1 ∧ BitVec.ofNat 4 (t.toNat / 2) ≠ 15) := by
    decide
  obtain ⟨k0, k1, k2, k3, k4⟩ := key s.phase hp
  simp only [runEvent, State.presented, h, if_true, runSelected, decode, decodeSeq_legal _ hp, tickEffect]
  by_cases h32 : s.phase.toNat = 32
  · rw [if_pos h32, if_neg (by omega), if_neg (by omega)]
    exact s.onPhase_selected _ _ h (k0 h32)
  by_cases h33 : s.phase.toNat = 33
  · rw [if_neg h32, if_pos h33, if_neg (by omega), if_neg (by omega)]
    exact s.onPhase_selected _ _ h (k1 h33)
  rw [if_neg h32, if_neg h33]
  by_cases h31 : s.phase.toNat = 31
  · rw [if_pos h31, if_pos h31]
    exact s.onPhase_selected _ _ h (k2 h31)
  rw [if_neg h31, if_neg h31]
  by_cases he : s.phase.toNat % 2 = 0
  · rw [if_pos he, if_pos ⟨by omega, he⟩]
    exact s.onPhase_selected _ _ h (k3 (by omega) he)
  · obtain ⟨k5, k6⟩ := k4 (by omega) (by omega)
    rw [if_neg he, if_neg (fun c => he c.2)]
    simp only [exec, execStrobe]
    rw [if_neg k6]
    exact s.onPhase_selected _ _ h k5

theorem runTick_reserved (d : Sample) (s : State) (h : s.en = true) (hp : 34 ≤ s.phase.toNat) :
    runEvent (.tick d) s = .refused .reservedPhase := by
  simp [runEvent, State.presented, h, runSelected, decode, decodeSeq_reserved _ hp, rejectReason]

/-- A listed tick while enabled at a legal `PHASE`. -/
theorem step_tick (s : State) (d : Sample) (rest : List Event) (h : s.en = true) (hp : s.phase.toNat ≤ 33)
    (hs : s.sched = .tick d :: rest) : step s = .next (tickEffect { s with sched := rest, data := d }) := by
  rw [step_listed s _ _ hp hs]
  exact runTick_enabled d _ h hp

/-- What a tick leaves. -/
theorem runTick_next (d : Sample) (s t : State) (h : runEvent (.tick d) s = .next t) :
    (s.en = false ∧ t = s) ∨ (s.en = true ∧ s.phase.toNat ≤ 33 ∧ t = tickEffect s) := by
  cases hen : s.en
  · rw [runTick_disabled d s hen] at h
    cases h
    exact .inl ⟨rfl, rfl⟩
  · by_cases hp : s.phase.toNat ≤ 33
    · rw [runTick_enabled d s hen hp] at h
      cases h
      exact .inr ⟨rfl, hp, rfl⟩
    · rw [runTick_reserved d s hen (by omega)] at h
      cases h

/-- What the Publisher's move is: nothing, ENTER, TAKE or RETURN (R75, R130). -/
theorem runPublisher_eq (s : State) :
    runEvent .publisher s =
      if s.pubActive then (match s.fifo with
        | [] => .next s.returnFromInterrupt
        | w :: rest => .next ((s.setFifo rest).setLatest (~~~w)))
      else if s.irq then .next s.takeInterrupt
      else .next s := by
  cases hp : s.pubActive
  · cases hi : s.irq
    · simp [runEvent, State.presented, hp, hi, runSelected]
    · have : (BitVec.ofBool true ++ BitVec.ofBool false : BitVec 2) = 2 := by decide
      simp [runEvent, State.presented, hp, hi, runSelected, decode, exec, execEnter]
  · cases hf : s.fifo with
    | nil =>
      have hn : s.pending = false := by simp [State.pending, hf]
      simp [runEvent, State.presented, hp, hn, runSelected, decode, exec, execRet]
    | cons w rest =>
      have hn : s.pending = true := by simp [State.pending, hf]
      simp [runEvent, State.presented, hp, hn, runSelected, decode, exec, execTake, State.popWord_cons s w rest hf]

/-- What the Publisher's move leaves. -/
theorem runPublisher_next (s t : State) (h : runEvent .publisher s = .next t) :
    (s.pubActive = false ∧ s.irq = false ∧ t = s) ∨ (s.pubActive = false ∧ s.irq = true ∧ t = s.takeInterrupt) ∨
    (s.pubActive = true ∧ ∃ w rest, s.fifo = w :: rest ∧ t = (s.setFifo rest).setLatest (~~~w)) ∨
    (s.pubActive = true ∧ s.fifo = [] ∧ t = s.returnFromInterrupt) := by
  rw [runPublisher_eq] at h
  cases hp : s.pubActive <;> cases hi : s.irq <;> cases hf : s.fifo <;> simp_all

/-- A request at the runtime surface always completes, with an answer on the port `result` (R74, R153, R145). -/
theorem runFn_next (sel : BitVec 2) (pad : Pad) (x : Word) (s : State) :
    ∃ r, runEvent (.fn sel pad x) s = .next (s.setResult r) := by
  have : sel = 0 ∨ sel = 1 ∨ sel = 2 ∨ sel = 3 := by revert sel; decide
  rcases this with rfl | rfl | rfl | rfl <;> exact ⟨_, rfl⟩

/-- A primitive request completes with an answer on the port `prim_result`, unless it is the reserved one (R76, R78). -/
theorem runPrim_cases (sel : BitVec 2) (pad : Pad) (button : ButtonCode) (target : Position) (x : Word) (s : State) :
    (sel = 3 ∧ runEvent (.prim sel pad button target x) s = .refused .reservedPrim) ∨
    ∃ r, runEvent (.prim sel pad button target x) s = .next (s.setPrimResult r) := by
  have : sel = 0 ∨ sel = 1 ∨ sel = 2 ∨ sel = 3 := by revert sel; decide
  rcases this with rfl | rfl | rfl | rfl
  · exact .inr ⟨_, rfl⟩
  · exact .inr ⟨_, rfl⟩
  · exact .inr ⟨_, rfl⟩
  · exact .inl ⟨rfl, rfl⟩

/-- A write to `CTRL.EN` is ENABLE or a refused disable (R75, R119). -/
theorem runCtrl_cases (b : BitVec 1) (s : State) :
    (b = 1 ∧ runEvent (.ctrl b) s = execEnable s) ∨ (b = 0 ∧ runEvent (.ctrl b) s = .refused .disable) := by
  have : b = 0 ∨ b = 1 := by revert b; decide
  rcases this with rfl | rfl
  · exact .inr ⟨rfl, rfl⟩
  · exact .inl ⟨rfl, rfl⟩

/-- Everything an event can leave behind, one case per operation. -/
theorem runEvent_next (e : Event) (s t : State) (h : runEvent e s = .next t) :
    (∃ d, e = .tick d ∧ ((s.en = false ∧ t = s) ∨ (s.en = true ∧ s.phase.toNat ≤ 33 ∧ t = tickEffect s))) ∨
    (e = .publisher ∧
      ((s.pubActive = false ∧ s.irq = false ∧ t = s) ∨ (s.pubActive = false ∧ s.irq = true ∧ t = s.takeInterrupt) ∨
        (s.pubActive = true ∧ ∃ w rest, s.fifo = w :: rest ∧ t = (s.setFifo rest).setLatest (~~~w)) ∨
        (s.pubActive = true ∧ s.fifo = [] ∧ t = s.returnFromInterrupt))) ∨
    (∃ sel pad x r, e = .fn sel pad x ∧ t = s.setResult r) ∨
    (∃ sel pad button target x r, e = .prim sel pad button target x ∧ t = s.setPrimResult r) ∨
    (e = .ctrl 1 ∧ s.en = false ∧ s.initialised = true ∧ s.pinsDistinct = true ∧ s.cleanEntry = true ∧ t = s.setEn true) ∨
    (∃ a, e = .init a ∧ initEvent a s = .next t) ∨
    (e = .rst ∧ s.en = false ∧ t = s.resetBlock) := by
  cases e with
  | tick d => exact .inl ⟨d, rfl, runTick_next d s t h⟩
  | publisher => exact .inr (.inl ⟨rfl, runPublisher_next s t h⟩)
  | fn sel pad x =>
    obtain ⟨r, hr⟩ := runFn_next sel pad x s
    rw [hr] at h
    cases h
    exact .inr (.inr (.inl ⟨sel, pad, x, r, rfl, rfl⟩))
  | prim sel pad button target x =>
    rcases runPrim_cases sel pad button target x s with ⟨_, hr⟩ | ⟨r, hr⟩
    · rw [hr] at h
      cases h
    · rw [hr] at h
      cases h
      exact .inr (.inr (.inr (.inl ⟨sel, pad, button, target, x, r, rfl, rfl⟩)))
  | ctrl b =>
    rcases runCtrl_cases b s with ⟨rfl, hr⟩ | ⟨_, hr⟩
    · rw [hr] at h
      exact .inr (.inr (.inr (.inr (.inl ⟨rfl, (execEnable_next s t).1 h⟩))))
    · rw [hr] at h
      cases h
  | init a => exact .inr (.inr (.inr (.inr (.inr (.inl ⟨a, rfl, h⟩)))))
  | rst => exact .inr (.inr (.inr (.inr (.inr (.inr ⟨rfl, (resetEvent_next s t).1 h⟩)))))

end Sys2Proof.Machine
end

