-- ==== Sys2Proof/Tests/Slice0.lean ====
section
/-! SUPPORT. The model's own tests. Expected results are those of `95_test_vectors.md` and of the rules' examples; words are
written out from the patterns of `30_encoding.md`. The witnesses at the end show, for each statement with hypotheses, a state and operands
that meet them. -/

namespace Sys2Proof.Tests

open Sys2Proof.Machine Sys2Proof.Safety

/-! ### Helpers -/

/-- Disabled and initialised on pins 2 to 5, ready for ENABLE. -/
def ready : State :=
  { State.reset with
    irqEn := true, config := { dataBase := 2, clkBase := 4, period := { num := 1, den := 34000 } },
    initDone := { dataBase := true, clkBase := true, period := true, program := true, cell := true } }

/-- Enabled, at a position, with a shift register. -/
def enabledAt (phase : Phase) (sr : Word) : State := { ready with en := true, phase := phase, sr := sr }

/-- Enabled with words queued and an invocation in progress. -/
def inside (fifo : List Word) : State := { enabledAt 32 0 with fifo := fifo, pubActive := true }

/-- A state with the events to come. -/
def before (s : State) (es : List Event) : State := { s with sched := es }

/-- The next state, if there is one. -/
def after (o : Host.Outcome State Fault Refusal) : Option State :=
  match o with
  | .next s => some s
  | .fault _ => none
  | .refused _ => none

/-- The reason of a refusal, if it is one. -/
def reason (o : Host.Outcome State Fault Refusal) : Option Refusal :=
  match o with
  | .next _ => none
  | .fault _ => none
  | .refused r => some r

/-! ### Well-formedness: one ill-formed term for each check -/

theorem test_wf_strobe : (Instr.strobe 14).wf = true ∧ (Instr.strobe 15).wf = false := by decide

theorem test_wf_params_default : Params.default.wf = true := by decide

theorem test_wf_fifo_depth : (Params.wf { Params.default with fifoDepth := 0 }) = false := by decide

theorem test_wf_sources_distinct :
    SsSrc.admissible { button0 := .buttonB, button1 := .buttonA, button2 := .buttonB, button3 := .buttonX } = false := by decide

theorem test_wf_sources_no_direction :
    SsSrc.admissible { button0 := .buttonB, button1 := .up, button2 := .buttonY, button3 := .buttonX } = false := by decide

/-! ### Decoding: words written out bit by bit (R73 to R76) -/

theorem test_decode_latch : decode (.seq 0b100000#6) = .ok (.latch 0) ∧ decode (.seq 0b100001#6) = .ok (.latch 1) := by decide

theorem test_decode_settle : decode (.seq 0b000000#6) = .ok (.settle 0) ∧ decode (.seq 0b011110#6) = .ok (.settle 15) := by decide

theorem test_decode_strobe : decode (.seq 0b001001#6) = .ok (.strobe 4) ∧ decode (.seq 0b011101#6) = .ok (.strobe 14) := by decide

theorem test_decode_strobe_push : decode (.seq 0b011111#6) = .ok .strobePush := by decide

theorem test_decode_reserved_phase :
    decode (.seq 0b100010#6) = .error .reservedPhase ∧ decode (.seq 0b111111#6) = .error .reservedPhase := by decide

theorem test_decode_ctrl : decode (.ctrl 0b1#1) = .ok .enable ∧ decode (.ctrl 0b0#1) = .error .disable := by decide

theorem test_decode_entry : decode (.entry 0b10#2) = .ok .enter ∧ decode (.entry 0b11#2) = .error .noEntry := by decide

theorem test_decode_pub : decode (.pub 0b1#1) = .ok .take ∧ decode (.pub 0b0#1) = .ok .ret := by decide

theorem test_decode_fn_low :
    decode (.fn 0b00#2 1 5) = .ok .currentState ∧ decode (.fn 0b01#2 1 0x101) = .ok (.toSingleStick 0x101 1) := by decide

theorem test_decode_fn_high :
    decode (.fn 0b10#2 0 7) = .ok (.toDualLeft 7 0) ∧ decode (.fn 0b11#2 1 9) = .ok (.toDualRight 9 1) := by decide

theorem test_decode_prim_low :
    decode (.prim 0b00#2 1 7 0 0) = .ok (.bitPosition 1 7) ∧ decode (.prim 0b01#2 0 15 0 0) = .ok (.bitMask 0 15) := by decide

theorem test_decode_prim_high :
    decode (.prim 0b10#2 0 4 31 0x100) = .ok (.extractAndRelocate 0x100 0 4 31) ∧
    decode (.prim 0b11#2 0 4 31 0x100) = .error .reservedPrim := by decide

theorem test_table_word_seq :
    decodeTableWord 8 0x20 = some (.latch 0) ∧ decodeTableWord 8 0x1F = some .strobePush ∧
    decodeTableWord 8 0x00 = some (.settle 0) ∧ decodeTableWord 8 0x01 = some (.strobe 0) := by decide

theorem test_table_word_tagged :
    decodeTableWord 16 0x101 = some .enable ∧ decodeTableWord 16 0x202 = some .enter ∧
    decodeTableWord 16 0x301 = some .take ∧ decodeTableWord 16 0x300 = some .ret ∧
    decodeTableWord 16 0x400 = some .currentState ∧ decodeTableWord 16 0x600 = none := by decide

theorem test_fetch_seq : (after (step (State.reset.withFetchWord 8 0x20))).map State.phase = some 33 := by decide

theorem test_fetch_enable : (after (step (State.reset.withFetchWord 16 0x101))).map State.en = some true := by decide

theorem test_fetch_fn :
    (after (step (State.reset.withFetchWord 64 0x0000010100000401))).map State.result = some (.byte 0x18) := by decide

/-! ### One step of each operation (`95_test_vectors.md` section 2) -/

theorem test_latch0 : (after (exec (.latch 0) (enabledAt 32 7))) = some (enabledAt 33 7) := by decide

theorem test_latch1 : (after (exec (.latch 1) (enabledAt 33 7))) = some (enabledAt 0 7) := by decide

theorem test_settle1 :
    (after (exec (.settle 1) { enabledAt 2 0xC0000000 with data := 1 })).map State.sr = some 0x70000000 := by decide

theorem test_settle3 :
    (after (exec (.settle 3) { enabledAt 6 0x00000003 with data := 2 })) = some { enabledAt 7 0x80000000 with data := 2 } := by decide

theorem test_strobe4 : (enabledAt 9 0).clk = true ∧ (after (exec (.strobe 4) (enabledAt 9 0))).map State.phase = some 10 := by decide

theorem test_strobe14 : (after (exec (.strobe 14) (enabledAt 29 0))).map State.phase = some 30 := by decide

theorem test_strobe_push :
    (after (exec .strobePush (enabledAt 31 0xFFFFFEFE))) = some { enabledAt 32 0xFFFFFEFE with fifo := [0xFFFFFEFE] } := by decide

theorem test_strobe_push_drop :
    (after (exec .strobePush { enabledAt 31 9 with fifo := [1], params := { Params.default with fifoDepth := 1, fullPolicy := .dropNew } })).map
      (fun t => (t.phase, t.fifo)) = some (32, [1]) := by decide

theorem test_enable : (after (exec .enable ready)) = some (enabledAt 32 0) := by decide

theorem test_enable_pins :
    (reason (exec .enable { ready with config := { dataBase := 3, clkBase := 4, period := { num := 1, den := 1 } } }))
      = some .pinsNotDistinct := by decide

theorem test_enter : (after (exec .enter { enabledAt 32 0 with fifo := [5] })).map State.pubActive = some true := by decide

theorem test_take :
    (after (exec .take (inside [0xFFFFFEFE]))).map (fun t => (t.fifo, t.latest, t.pending)) = some ([], 0x00000101, false) := by
  decide

theorem test_take_two :
    (after (exec .take (inside [0x00000000, 4]))).map (fun t => (t.fifo, t.latest, t.pending)) = some ([4], 0xFFFFFFFF, true) := by
  decide

theorem test_return : (after (exec .ret (inside []))) = some (enabledAt 32 0) := by decide

theorem test_current_state :
    (after (exec .currentState { inside [0xFFFFFFFF] with latest := 0x101 })).map (fun t => (t.result, t.fifo))
      = some (.word 0x101, [0xFFFFFFFF]) := by decide

theorem test_single_stick :
    singleStick Params.default.ssSrc 0x00AB4082 0 = 0x21 ∧ singleStick Params.default.ssSrc 0x00AB4082 1 = 0xB0 := by decide

theorem test_single_stick_exec :
    (after (exec (.toSingleStick 0x0002AA02 1) State.reset)).map State.result = some (.byte 0x3F) := by decide

theorem test_dual_left :
    dualLeft .buttonB 0x00003000 0 = 0xFE ∧ dualLeft .buttonB 0x00AB4082 0 = 0xFD ∧ dualLeft .buttonB 0x00AB4082 1 = 0xEF := by
  decide

theorem test_dual_left_exec :
    (after (exec (.toDualLeft 0x00000101 0) State.reset)).map State.result = some (.byte 0xE7) := by decide

theorem test_dual_right :
    dualRight .buttonB 0x00003000 1 = 0xEF ∧ dualRight .buttonB 0x00AB4082 0 = 0xF7 ∧ dualRight .buttonB 0x00AB4082 1 = 0xFE := by
  decide

theorem test_dual_right_exec :
    (after (exec (.toDualRight 0x00000101 0) State.reset)).map State.result = some (.byte 0xFC) := by decide

theorem test_bit_position :
    (after (exec (.bitPosition 1 11) State.reset)).map State.primResult = some (.index 23) ∧ bitPos 1 15 = 31 := by decide

theorem test_bit_mask :
    (after (exec (.bitMask 1 11) State.reset)).map State.primResult = some (.word 0x00800000) ∧ bitMaskOf 1 15 = 0x80000000 := by
  decide

theorem test_relocate :
    (after (exec (.extractAndRelocate 0x100 0 4 3) State.reset)).map State.primResult = some (.word 8) ∧
    relocate 0x100 0 4 8 = 0x100 := by decide

theorem test_relocate_far :
    relocate 0xFFFFFFFF 0 0 31 = 0x80000000 ∧ relocate 0x80000000 1 15 0 = 1 ∧ relocate 0xFFFFFEFF 0 4 3 = 0 := by decide

/-! ### Refusals, and the steps that are no rows of the table -/

theorem test_reserved_tick : (reason (step { enabledAt 34 0 with sched := [.tick 0] })) = some .reservedPhase := by decide

theorem test_reserved_disabled :
    (reason (step { ready with phase := 63, sched := [.tick 0] })) = some .reservedPhase ∧
    (reason (step { ready with phase := 34, sched := [.fn 0 0 0] })) = some .reservedPhase := by decide

theorem test_disable : (reason (step { enabledAt 0 0 with sched := [.ctrl 0] })) = some .disable := by decide

theorem test_reset_clears :
    (after (step { ready with sched := [.rst] })).map (fun t => (t.irqEn, t.initialised)) = some (false, false) := by decide

theorem test_handler_before_cell : (reason (step { State.reset with sched := [.init .handler] })) = some .handlerBeforeCell := by
  decide

theorem test_publisher_idle :
    (after (step { enabledAt 5 3 with irqEn := false, fifo := [1], sched := [.publisher] }))
      = some { enabledAt 5 3 with irqEn := false, fifo := [1] } := by decide

/-! ### Witnesses: each statement's hypotheses are met, one clause at a time at its boundary values -/

/-- Reference controllers of twelve buttons, lines high after the last one. -/
def pads (block : State) : ClosedLoop where
  block := block
  pad0 := { width := 12, buttons := 0x011, captured := 0, count := 0, fill := 0x1FFFF }
  pad1 := { width := 12, buttons := 0x800, captured := 0, count := 0, fill := 0x1FFFF }

/-- Both lines high at every tick of a cycle. -/
def high : Fin 34 → Sample := fun _ => 3

theorem witness_EncodeThenDecode : (Instr.strobe 0).wf = true ∧ (Instr.strobe 14).wf = true := by decide

theorem witness_DecodeThenEncode : decode (.seq 29) = .ok (.strobe 14) ∧ decode (.fn 0 1 7) = .ok .currentState := by decide

theorem witness_SequencerOpcodeMap :
    ready.en = false ∧ (enabledAt 32 0).en = true ∧ (enabledAt 30 0).phase.toNat = 2 * 15 ∧
    (enabledAt 29 0).phase.toNat = 2 * 14 + 1 ∧ (enabledAt 31 0).phase.toNat = 31 ∧ 34 ≤ (enabledAt 34 0).phase.toNat ∧
    (enabledAt 33 0).phase.toNat = 33 ∧ (enabledAt 32 0).phase.toNat = 32 := by decide

theorem witness_BitPositionInjective : ∃ t, exec (.bitPosition 1 11) State.reset = .next t ∧ (11#4).toNat ≤ 11 := by
  exact ⟨_, rfl, by decide⟩

theorem witness_BitMaskAnswers : (11#4).toNat ≤ 11 := by decide

theorem witness_RelocateShifts :
    (8 : Nat) = 2 * (4#4).toNat + (0#1).toNat ∧ (0x100 : Word) = 0x101 &&& (1#32 <<< 8) ∧ 8 < (9#5).toNat ∧ (7#5).toNat < 8 ∧
    (8#5).toNat = 8 := by decide

theorem witness_RelocationsCompose : (([(7, 0), (6, 1), (7, 31)] : List (ButtonCode × Position)).map Prod.snd).Nodup := by decide

theorem witness_DualResultsInRange : (0x1F#32).toNat < 32 ∧ (0#32).toNat < 32 := by decide

theorem witness_ConvertersReadOwnPadOnly :
    (∀ b ∈ [ButtonIndex.right, .left, .down, .up] ++ Params.default.ssSrc.toList ++ [Params.default.fireSrc],
      (0x00000101 : Word).getLsbD (2 * (buttonCode b).toNat) = (0xFFAAABAB : Word).getLsbD (2 * (buttonCode b).toNat)) ∧
    (0x00000101 : Word) ≠ 0xFFAAABAB := by decide

theorem witness_SingleStickCorners :
    State.reset.params.wf = true ∧
    (∀ b ∈ [ButtonIndex.right, .left, .down, .up] ++ State.reset.params.ssSrc.toList,
      (0x00055505 : Word).getLsbD (2 * (buttonCode b).toNat + (0#1).toNat) = true ∧
      (0x00055505 : Word).getLsbD (2 * (buttonCode b).toNat + (1#1).toNat) = false) := by decide

theorem witness_DualCorners :
    State.reset.params.fireSrc ≠ .up ∧
    (∀ b ∈ [ButtonIndex.right, .left, .down, .up, State.reset.params.fireSrc],
      (0x00005501 : Word).getLsbD (2 * (buttonCode b).toNat + (0#1).toNat) = true) := by decide

theorem witness_LatchAdvances : (enabledAt 32 0).en = true ∧ (enabledAt 32 0).phase = 32 ∧ (enabledAt 33 0).phase = 33 := by decide

theorem witness_SettleSamples :
    (enabledAt 0 0).en = true ∧ (enabledAt 0 0).phase.toNat = 2 * (0#4).toNat ∧
    (enabledAt 30 0).phase.toNat = 2 * (15#4).toNat := by decide

theorem witness_StrobeAdvances :
    (14#4) ≠ 15 ∧ (enabledAt 29 0).en = true ∧ (enabledAt 29 0).phase.toNat = 2 * (14#4).toNat + 1 ∧
    (enabledAt 1 0).phase.toNat = 2 * (0#4).toNat + 1 := by decide

/-- At the push, with the queue one short of full and full, under either policy. -/
def atPush (fifo : List Word) (policy : FullPolicy) : State :=
  { enabledAt 31 7 with fifo := fifo, params := { Params.default with fifoDepth := 2, fullPolicy := policy } }

theorem witness_StrobePushQueues :
    (atPush [5] .stall).en = true ∧ (atPush [5] .stall).phase = 31 ∧
    (atPush [5] .stall).fifo.length < (atPush [5] .stall).params.fifoDepth := by decide

theorem witness_StrobePushFull :
    (atPush [5, 6] .stall).fifo.length = (atPush [5, 6] .stall).params.fifoDepth ∧
    (atPush [5, 6] .stall).params.fullPolicy = .stall ∧ (atPush [5, 6] .dropNew).params.fullPolicy = .dropNew ∧
    (atPush [5, 6] .dropNew).phase = 31 := by decide

theorem witness_DisabledTickChangesNothing : (before ready [.tick 2]).en = false ∧ (before ready [.tick 2]).phase.toNat ≤ 33 := by
  decide

theorem witness_EnableSetsEn :
    ready.en = false ∧ ready.irqEn = true ∧
    ready.initDone = { dataBase := true, clkBase := true, period := true, program := true, cell := true } ∧
    ready.config.dataBase ≠ ready.config.clkBase ∧ ready.config.dataBase + 1 ≠ ready.config.clkBase ∧
    ready.config.dataBase ≠ ready.config.clkBase + 1 ∧ ready.phase = 32 ∧ ready.sr = 0 ∧ ready.fifo = [] ∧ ready.latest = 0 ∧
    ready.pubActive = false := by decide

theorem witness_EnableRefused :
    (enabledAt 33 0).en = true ∧ (before (enabledAt 33 0) [.ctrl 0]).phase.toNat ≤ 33 ∧
    (before (enabledAt 33 0) [.ctrl 0]).sched = .ctrl 0 :: [] ∧
    State.reset.en = false ∧ State.reset.irqEn = false ∧ State.reset.initDone.cell = false ∧
    (before (enabledAt 33 0) [.init .cell]).phase.toNat ≤ 33 ∧ (before (enabledAt 33 0) [.init .cell]).sched = .init .cell :: [] ∧
    (after (step (before (enabledAt 33 0) [.tick 0]))).isSome = true := by decide

theorem witness_PinsCarryOutputs :
    ready.initDone.dataBase = true ∧ ready.initDone.clkBase = true ∧ ready.pinsDistinct = true := by decide

theorem before_legal (s : State) (es : List Event) (h : s.fifo.length ≤ s.params.fifoDepth) (hp : s.phase.toNat ≤ 33)
    (he : s.en = true) : Legal (before s es) :=
  ⟨h, hp, fun e => by rw [show (before s es).en = s.en from rfl, he] at e; cases e⟩

theorem witness_PhaseFollowsCycle :
    Legal (before (enabledAt 33 0) [.tick 1]) ∧ (∃ t, step (before (enabledAt 33 0) [.tick 1]) = .next t) ∧
    Legal (before (atPush [5, 6] .stall) [.tick 1]) ∧ (∃ t, step (before (atPush [5, 6] .stall) [.tick 1]) = .next t) ∧
    Legal (before (enabledAt 33 0) [.publisher]) ∧ (∃ t, step (before (enabledAt 33 0) [.publisher]) = .next t) ∧
    Legal (before ready [.tick 1]) ∧ (∃ t, step (before ready [.tick 1]) = .next t) ∧
    Legal (before ready [.init .program]) ∧ ∃ t, step (before ready [.init .program]) = .next t :=
  ⟨before_legal _ _ (by decide) (by decide) rfl, ⟨_, rfl⟩, before_legal _ _ (by decide) (by decide) rfl, ⟨_, rfl⟩,
    before_legal _ _ (by decide) (by decide) rfl, ⟨_, rfl⟩, ⟨by decide, by decide, fun _ => ⟨rfl, rfl, rfl⟩⟩, ⟨_, rfl⟩,
    ⟨by decide, by decide, fun _ => ⟨rfl, rfl, rfl⟩⟩, ⟨_, rfl⟩⟩

theorem witness_CyclePlacesSamples :
    (enabledAt 32 5).en = true ∧ (enabledAt 32 5).phase = 32 ∧
    (enabledAt 32 5).fifo.length < (enabledAt 32 5).params.fifoDepth ∧
    ({ enabledAt 32 5 with sched := cycleTicks high ++ [.publisher] } : State).sched = cycleTicks high ++ [.publisher] := by decide

theorem witness_StallRepeats :
    (atPush [5, 6] .stall).en = true ∧ (atPush [5, 6] .stall).phase = 31 ∧
    (atPush [5, 6] .stall).fifo.length = (atPush [5, 6] .stall).params.fifoDepth ∧
    ({ atPush [5, 6] .stall with sched := [.tick 1, .tick 2, .publisher] } : State).sched
      = [1, 2].map Event.tick ++ [.publisher] := by decide

theorem witness_CycleReadsControllers :
    (pads (enabledAt 32 5)).block.en = true ∧ (pads (enabledAt 32 5)).block.phase = 32 ∧
    (pads (enabledAt 32 5)).block.fifo.length < (pads (enabledAt 32 5)).block.params.fifoDepth := by decide

theorem witness_CyclePublishesRawState :
    (pads (inside [])).block.en = true ∧ (pads (inside [])).block.phase = 32 ∧ (pads (inside [])).block.fifo = [] ∧
    1 ≤ (pads (inside [])).block.params.fifoDepth ∧ (pads (inside [])).pad0.width = 12 ∧ (pads (inside [])).pad1.width = 12 ∧
    (∀ k : Fin 4, (pads (inside [])).pad0.fill.getLsbD (12 + k.val) = true ∧
      (pads (inside [])).pad1.fill.getLsbD (12 + k.val) = true) ∧
    (pads (inside [])).block.pubActive = true ∧ (pads (enabledAt 32 0)).block.fifo = [] ∧
    (pads (enabledAt 32 0)).block.phase = 32 ∧ (pads (enabledAt 32 0)).block.pubActive = false ∧
    (pads (enabledAt 32 0)).block.irqEn = true := by decide

theorem witness_PremisesOnLines :
    ((before (enabledAt 32 5) (cycleTicks high)).en = true ∧ (before (enabledAt 32 5) (cycleTicks high)).phase = 32 ∧
      (before (enabledAt 32 5) (cycleTicks high)).fifo.length < 4 ∧
      (before (enabledAt 32 5) (cycleTicks high)).sched = cycleTicks high ++ []) ∧
    PadIdleHigh high ∧ NoControllerHigh 1 high ∧ Settled (fun _ => 3) high :=
  ⟨by decide, fun _ => rfl, fun _ => (by decide : (3#2).getLsbD 1 = true), fun _ => rfl⟩

theorem witness_EnterSetsPubActive :
    (atPush [5] .stall).fifo ≠ [] ∧ (atPush [5] .stall).irqEn = true ∧ (atPush [5] .stall).pubActive = false := by decide

theorem witness_TakePublishesHead :
    (inside [1, 2]).pubActive = true ∧ (inside [1, 2]).fifo = 1 :: [2] ∧
    (inside [1, 2]).fifo.length ≤ (inside [1, 2]).params.fifoDepth := by decide

theorem witness_ReturnClearsPubActive : (inside []).pubActive = true ∧ (inside []).fifo = [] := by decide

theorem witness_DrainKeepsLastWord :
    (before (atPush [1, 2] .stall) (List.replicate 4 .publisher)).sched = List.replicate ([1].length + 3) .publisher ++ [] ∧
    (before (atPush [1, 2] .stall) (List.replicate 4 .publisher)).fifo = [1] ++ [2] ∧
    (before (atPush [1, 2] .stall) (List.replicate 4 .publisher)).phase.toNat ≤ 33 ∧
    (before (atPush [1, 2] .stall) (List.replicate 4 .publisher)).pubActive = false ∧
    (before (atPush [1, 2] .stall) (List.replicate 4 .publisher)).irqEn = true := by decide

theorem witness_PushAndTakeCommute :
    ({ inside [5] with phase := 31 } : State).en = true ∧ ({ inside [5] with phase := 31 } : State).phase = 31 ∧
    ({ inside [5] with phase := 31 } : State).pubActive = true ∧ ({ inside [5] with phase := 31 } : State).fifo ≠ [] ∧
    ({ inside [5] with phase := 31 } : State).fifo.length < ({ inside [5] with phase := 31 } : State).params.fifoDepth := by
  decide

theorem witness_PublisherRefinesOneStep :
    Initialised (before (inside [1]) [.publisher]) ∧ ∃ t, step (before (inside [1]) [.publisher]) = .next t :=
  ⟨⟨fun _ => rfl, fun _ => ⟨rfl, rfl⟩⟩, ⟨_, rfl⟩⟩

theorem witness_OneStepRefinesPublisher :
    (oneStepTake (view (before (atPush [1] .stall) [.publisher, .publisher]))).isSome = true ∧
    (before (atPush [1] .stall) [.publisher, .publisher]).phase.toNat ≤ 33 ∧
    (oneStepTake (view (before (inside [1]) [.publisher, .publisher]))).isSome = true ∧
    (before (inside [1]) [.publisher, .publisher]).phase.toNat ≤ 33 := by decide

theorem witness_RequestIsLevel :
    (before (inside [1]) [.publisher]).en = true ∧ (before (inside [1]) [.publisher]).irq = true ∧
    ∃ t, step (before (inside [1]) [.publisher]) = .next t ∧ t.irq = false :=
  ⟨rfl, rfl, _, rfl, rfl⟩

theorem witness_MaskedPublisherIdle :
    Legal (before State.reset [.publisher]) ∧ Initialised (before State.reset [.publisher]) ∧
    (before State.reset [.publisher]).irqEn = false ∧ (∃ t, step (before State.reset [.publisher]) = .next t) ∧
    ∃ t, step { before State.reset [.init .handler] with
      initDone := { InitDone.reset with cell := true } } = .next t ∧ t.irqEn = true :=
  ⟨⟨by decide, by decide, fun _ => ⟨rfl, rfl, rfl⟩⟩, ⟨by decide, by decide⟩, rfl, ⟨_, rfl⟩, ⟨_, rfl, rfl⟩⟩

theorem witness_ReadsAgree :
    (before (enabledAt 32 0) (.fn 0 0 0 :: [.tick 1] ++ .fn 0 0 0 :: [])).en = true ∧ (∀ e ∈ [Event.tick 1], e ≠ .publisher) ∧
    ∃ t, steps ([Event.tick 1].length + 2) (before (enabledAt 32 0) (.fn 0 0 0 :: [.tick 1] ++ .fn 0 0 0 :: [])) = some t :=
  ⟨rfl, by decide, _, rfl⟩

theorem witness_StepRunsSelectedOperation :
    (before (enabledAt 32 0) [.tick 1]).phase.toNat ≤ 33 ∧ (before (enabledAt 32 0) [.tick 1]).sched = .tick 1 :: [] ∧
    ((before (enabledAt 32 0) []).drive (.tick 1)).presented (.tick 1) = some (.seq 32) ∧
    decode (.seq 32) = .ok (.latch 0) ∧
    ((before ready []).drive (.tick 1)).presented (.tick 1) = none ∧
    ((before ready []).drive .publisher).presented .publisher = none ∧ State.reset.sched = [] ∧
    34 ≤ (enabledAt 34 0).phase.toNat ∧ 34 ≤ (enabledAt 63 0).phase.toNat := by decide

theorem witness_ResetLeavesValues : 1 ≤ Params.default.fifoDepth := by decide

theorem witness_ResetEventRestores :
    (before ready [.rst]).phase.toNat ≤ 33 ∧ (before ready [.rst]).en = false ∧
    (before (enabledAt 0 0) [.rst]).phase.toNat ≤ 33 ∧ (before (enabledAt 0 0) [.rst]).en = true := by decide

theorem witness_InitialisationEnables :
    0 < ({ num := 1, den := 34000 } : Period).num ∧ 0 < ({ num := 1, den := 34000 } : Period).den ∧
    (∀ db cb : Nat, (db, cb) = (2, 4) → db ≠ cb ∧ db + 1 ≠ cb ∧ db ≠ cb + 1) ∧
    (∀ db cb : Nat, (db, cb) = (3, 4) → db = cb ∨ db + 1 = cb ∨ db = cb + 1) := by
  refine ⟨by decide, by decide, fun db cb h => ?_, fun db cb h => ?_⟩ <;> cases h <;> decide

theorem witness_InitialisationEnables_alone :
    (before ready [.init .handler]).phase.toNat ≤ 33 ∧ (before ready [.init .handler]).en = false ∧
    (before ready [.init .handler]).sched = .init .handler :: [] ∧ (before ready [.init .handler]).initDone.cell = true ∧
    (before State.reset [.init .handler]).initDone.cell = false ∧ (before State.reset [.init (.dataBase 2)]).initDone.clkBase = false ∧
    { ready with config := { ready.config with dataBase := 6 } }.pinsDistinct = true ∧
    ({ num := 0, den := 1 } : Period).num = 0 ∧ ({ num := 1, den := 0 } : Period).den = 0 := by decide

theorem witness_StepKeepsLegal :
    Legal (before (enabledAt 33 0) [.tick 1]) ∧ ∃ t, step (before (enabledAt 33 0) [.tick 1]) = .next t :=
  ⟨before_legal _ _ (by decide) (by decide) rfl, _, rfl⟩

theorem witness_StepKeepsInitialised :
    Initialised (before (inside [1]) [.tick 1]) ∧ ∃ t, step (before (inside [1]) [.tick 1]) = .next t :=
  ⟨⟨fun _ => rfl, fun _ => ⟨rfl, rfl⟩⟩, _, rfl⟩

theorem witness_StepKeepsPublished :
    Legal (before (enabledAt 31 9) [.tick 1]) ∧ Published [] (before (enabledAt 31 9) [.tick 1]) ∧
    ∃ t, step (before (enabledAt 31 9) [.tick 1]) = .next t ∧ t.fifo = [9] :=
  ⟨before_legal _ _ (by decide) (by decide) rfl, ⟨[], rfl, rfl⟩, _, rfl, rfl⟩

theorem witness_OwnersWriteStorage :
    (enabledAt 31 9).en = true ∧ (∃ t, step (before (enabledAt 31 9) [.tick 1]) = .next t) ∧ (inside [1]).en = true ∧
    ∃ t, step (before (inside [1]) [.publisher]) = .next t :=
  ⟨rfl, ⟨_, rfl⟩, rfl, ⟨_, rfl⟩⟩

theorem witness_ConfigurationFrozen :
    (before (enabledAt 3 0) [.tick 1]).en = true ∧ ∃ t, step (before (enabledAt 3 0) [.tick 1]) = .next t :=
  ⟨rfl, _, rfl⟩

theorem witness_SequencerFrame :
    (after (exec (.latch 0) (enabledAt 32 0))).isSome = true ∧ (after (exec (.settle 0) (enabledAt 0 0))).isSome = true ∧
    (after (exec (.strobe 0) (enabledAt 1 0))).isSome = true ∧ (after (exec .strobePush (enabledAt 31 0))).isSome = true ∧
    (after (exec .enable ready)).isSome = true := by decide

theorem witness_PublisherFrame :
    (after (exec .enter { enabledAt 32 0 with fifo := [1] })).isSome = true ∧ (after (exec .take (inside [1]))).isSome = true ∧
    (after (exec .ret (inside []))).isSome = true := by decide

theorem witness_ReaderFrame :
    (after (exec .currentState State.reset)).isSome = true ∧ (after (exec (.toSingleStick 1 0) State.reset)).isSome = true ∧
    (after (exec (.toDualLeft 1 0) State.reset)).isSome = true ∧ (after (exec (.toDualRight 1 0) State.reset)).isSome = true ∧
    (after (exec (.bitPosition 1 0) State.reset)).isSome = true ∧ (after (exec (.bitMask 1 0) State.reset)).isSome = true ∧
    (after (exec (.extractAndRelocate 1 0 0 0) State.reset)).isSome = true := by decide

theorem witness_RefusalsHaveCause :
    (reason (step (before State.reset [.ctrl 1]))) = some .enableBeforeInit ∧
    (reason (step (before (enabledAt 0 0) [.ctrl 1]))) = some .secondEnable ∧
    (reason (step (before { ready with sr := 1 } [.ctrl 1]))) = some .enableNotClean ∧
    (reason (step (before { ready with config := { ready.config with dataBase := 3 } } [.ctrl 1]))) = some .pinsNotDistinct ∧
    (reason (step (before ready [.ctrl 0]))) = some .disable ∧
    (reason (step (before (enabledAt 0 0) [.init .cell]))) = some .configWhileEnabled ∧
    (reason (step (before State.reset [.init .handler]))) = some .handlerBeforeCell ∧
    (reason (step (before ready [.init (.period { num := 0, den := 1 })]))) = some .periodNotPositive ∧
    (reason (step (before (enabledAt 0 0) [.rst]))) = some .resetWhileEnabled ∧
    (reason (step (before ready [.prim 3 0 0 0 0]))) = some .reservedPrim ∧
    (reason (step (before (enabledAt 34 0) [.publisher]))) = some .reservedPhase := by decide

theorem witness_UnselectedOperations :
    ready.en = false ∧ (enabledAt 33 0).en = true ∧ (encode (.latch 0)).format = .seq ∧ (Instr.latch 0).wf = true ∧
    encode (.latch 0) ≠ .seq (enabledAt 33 0).phase ∧ (enabledAt 33 0).irq = false ∧ (inside []).pubActive = true ∧
    (inside []).fifo = [] ∧ (enabledAt 33 0).pubActive = false ∧ (inside [1]).fifo ≠ [] := by decide

end Sys2Proof.Tests
end

section
/-! The state's own rules (`10_state.md`): what a step can do to the elements the invariants of R34 speak of, and from that the
invariants, the cycle of `PHASE`, the frozen configuration, the pins and the values after reset. -/

namespace Sys2Proof.Safety

open Sys2Proof.Machine

/-! ### What a step does to the storage and the configuration -/

/-- `t` agrees with `s` on what only the Environment writes: `EN`, `IRQ_EN`, the configuration, its progress, the parameters. -/
structure SameSetup (s t : State) : Prop where
  en : t.en = s.en
  irqEn : t.irqEn = s.irqEn
  config : t.config = s.config
  initDone : t.initDone = s.initDone
  params : t.params = s.params

/-- The disabled block's storage, as `Legal.disabled_clean` states it (R34). -/
def Clean (s : State) : Prop := s.phase = 32 ∧ s.fifo = [] ∧ s.latest = 0

/-- The four things a step can be, told by what it does to `PHASE`, the FIFO, `LATEST` and the configuration. -/
inductive StepKind (s t : State) : Prop where
  /-- A tick while enabled (R102, R107, R108). -/
  | tick (d : Sample) (event : s.nextEvent.1 = .tick d) (enabled : s.en = true)
      (phase : t.phase =
        if s.phase.toNat = 31 ∧ s.hasRoom = false ∧ s.params.fullPolicy = .stall then s.phase else nextPhase s.phase)
      (fifo : t.fifo = if s.phase.toNat = 31 ∧ s.hasRoom = true then s.fifo ++ [s.sr] else s.fifo)
      (latest : t.latest = s.latest) (same : SameSetup s t)
  /-- TAKE (R131). -/
  | take (w : Word) (event : s.nextEvent.1 = .publisher) (phase : t.phase = s.phase) (fifo : s.fifo = w :: t.fifo)
      (latest : t.latest = ~~~w) (same : SameSetup s t)
  /-- The Environment's reset, initialisation step or ENABLE, all of them while disabled (R200, R206, R117). -/
  | environment (disabled : s.en = false) (params : t.params = s.params) (clean : Clean s → Clean t)
  /-- Anything else: a Reader's answer, ENTER, RETURN, an idle move of the Publisher or a disabled tick. -/
  | quiet (event : (∃ d, s.nextEvent.1 = .tick d) → s.en = false) (phase : t.phase = s.phase) (fifo : t.fifo = s.fifo)
      (latest : t.latest = s.latest) (same : SameSetup s t)

/-- A tick's effect on the queue: `SR` is appended at `PHASE` 31 with room, and only then (R43, R107). -/
theorem tickEffect_fifo (s : State) :
    (tickEffect s).fifo = if s.phase.toNat = 31 ∧ s.hasRoom = true then s.fifo ++ [s.sr] else s.fifo := by
  unfold tickEffect
  split
  case isTrue h31 =>
    rcases s.strobePush_cases with ⟨room, push⟩ | ⟨full, -, stall⟩ | ⟨full, -, drop⟩
    · simp [push, h31, room, State.advance_eq, State.pushWord_eq]
    · simp [stall, full]
    · simp [drop, full, State.advance_eq]
  case isFalse h31 => split <;> simp [h31, State.settle, State.advance_eq]

/-- A tick's effect leaves `LATEST` and the configuration alone (R13, R217). -/
theorem tickEffect_frame (s : State) : (tickEffect s).latest = s.latest ∧ SameSetup s (tickEffect s) := by
  rcases tickEffect_cases s with ⟨phase, sr, h⟩ | ⟨-, -, h⟩ <;> rw [h] <;> exact ⟨rfl, rfl, rfl, rfl, rfl, rfl⟩

/-- An initialisation step happens while disabled, keeps the parameters and writes reset values to the storage (R206). -/
theorem initEvent_clean (a : InitStep) (s t : State) (h : initEvent a s = .next t) :
    s.en = false ∧ t.params = s.params ∧ (Clean s → Clean t) := by
  obtain ⟨disabled, ⟨pin, -, rfl⟩ | ⟨pin, -, rfl⟩ | ⟨p, -, -, rfl⟩ | ⟨-, rfl⟩ | ⟨-, rfl⟩ | ⟨-, -, rfl⟩⟩ := initEvent_next a s t h
  · exact ⟨disabled, rfl, id⟩
  · exact ⟨disabled, rfl, id⟩
  · exact ⟨disabled, rfl, id⟩
  · exact ⟨disabled, rfl, fun c => ⟨rfl, rfl, c.2.2⟩⟩
  · exact ⟨disabled, rfl, fun c => ⟨c.1, c.2.1, rfl⟩⟩
  · exact ⟨disabled, rfl, id⟩

/-- Every step is of one of the four kinds, whether its event is listed or free (R53). -/
theorem step_kind (s t : State) (h : step s = .next t) : StepKind s t := by
  obtain ⟨-, run⟩ := step_next s t h
  obtain ⟨sched, draws, data, met⟩ := s.met_eq
  rw [met] at run
  rcases runEvent_next _ _ _ run with ⟨d, event, ⟨disabled, rfl⟩ | ⟨enabled, -, rfl⟩⟩ | ⟨event, publisher⟩ |
    ⟨sel, pad, x, r, event, rfl⟩ | ⟨sel, pad, button, target, x, r, event, rfl⟩ | ⟨-, disabled, -, -, -, rfl⟩ |
    ⟨a, -, init⟩ | ⟨-, disabled, rfl⟩
  · exact .quiet (fun _ => disabled) rfl rfl rfl ⟨rfl, rfl, rfl, rfl, rfl⟩
  · obtain ⟨latest, same⟩ := tickEffect_frame { s with sched := sched, draws := draws, data := data }
    exact .tick d event enabled (tickEffect_phase _) (tickEffect_fifo _) latest
      ⟨same.en, same.irqEn, same.config, same.initDone, same.params⟩
  · have notTick : (∃ d, s.nextEvent.1 = .tick d) → s.en = false := by simp [event]
    rcases publisher with ⟨-, -, rfl⟩ | ⟨-, -, rfl⟩ | ⟨-, w, rest, fifo, rfl⟩ | ⟨-, -, rfl⟩
    · exact .quiet notTick rfl rfl rfl ⟨rfl, rfl, rfl, rfl, rfl⟩
    · exact .quiet notTick rfl rfl rfl ⟨rfl, rfl, rfl, rfl, rfl⟩
    · exact .take w event rfl fifo rfl ⟨rfl, rfl, rfl, rfl, rfl⟩
    · exact .quiet notTick rfl rfl rfl ⟨rfl, rfl, rfl, rfl, rfl⟩
  · exact .quiet (by simp [event]) rfl rfl rfl ⟨rfl, rfl, rfl, rfl, rfl⟩
  · exact .quiet (by simp [event]) rfl rfl rfl ⟨rfl, rfl, rfl, rfl, rfl⟩
  · exact .environment disabled rfl id
  · obtain ⟨disabled, params, clean⟩ := initEvent_clean a _ t init
    exact .environment disabled params clean
  · exact .environment disabled rfl fun _ => ⟨rfl, rfl, rfl⟩

/-! ### The one-state invariants of R34 -/

/-- A clean storage meets the invariants of R34, whether `EN` is set or not. -/
theorem Clean.legal {s : State} (h : Clean s) : Legal s := by
  obtain ⟨phase, fifo, latest⟩ := h
  exact ⟨by simp [fifo], by simp [phase], fun _ => ⟨phase, fifo, latest⟩⟩

/-- Settles O51: by the kind of the step; only the Environment writes a disabled block's storage, and it leaves it clean. -/
theorem stepKeepsLegal : Obligations.StepKeepsLegal := by
  intro s t legal h
  obtain ⟨fits, legalPhase, clean⟩ := legal
  cases step_kind s t h with
  | tick d event enabled phase fifo latest same =>
    refine ⟨?_, ?_, ?_⟩
    · rw [fifo, same.params]
      split
      case isTrue push => simpa using (s.hasRoom_iff).1 push.2
      case isFalse => exact fits
    · rw [phase]
      split
      · exact legalPhase
      · exact nextPhase_legal _ legalPhase
    · simp [same.en, enabled]
  | take w event phase fifo latest same =>
    refine ⟨?_, phase ▸ legalPhase, ?_⟩
    · rw [fifo, List.length_cons] at fits
      rw [same.params]
      omega
    · intro disabled
      simp [clean (same.en ▸ disabled)] at fifo
  | environment disabled params keeps => exact (keeps (clean disabled)).legal
  | quiet event phase fifo latest same =>
    refine ⟨by rw [fifo, same.params]; exact fits, phase ▸ legalPhase, ?_⟩
    rw [same.en, phase, fifo, latest]
    exact clean

/-! ### What was pushed, what was taken and `LATEST` -/

/-- The last word taken is the one `LATEST` shows, complemented (R131). -/
theorem latestAfter_append_singleton (taken : List Word) (w : Word) : latestAfter (taken ++ [w]) = ~~~w := by
  simp [latestAfter]

/-- A push appends to the words pushed and to the queue alike (R43). -/
theorem Published.push {pushed ws : List Word} {s t : State} (h : Published pushed s) (fifo : t.fifo = s.fifo ++ ws)
    (latest : t.latest = s.latest) : Published (pushed ++ ws) t := by
  obtain ⟨taken, split, last⟩ := h
  exact ⟨taken, by rw [split, fifo, List.append_assoc], latest.trans last⟩

/-- A TAKE moves the head of the queue to the end of the words taken (R44, R131). -/
theorem Published.take {pushed : List Word} {s t : State} {w : Word} (h : Published pushed s) (fifo : s.fifo = w :: t.fifo)
    (latest : t.latest = ~~~w) : Published pushed t := by
  obtain ⟨taken, split, -⟩ := h
  exact ⟨taken ++ [w], by rw [split, fifo, List.append_cons], by rw [latest, latestAfter_append_singleton]⟩

/-- A tick while enabled pushes `SR` at `PHASE` 31 with room (R107). -/
theorem pushedNext_tick {s : State} {d : Sample} (event : s.nextEvent.1 = .tick d) (enabled : s.en = true) :
    pushedNext s = if s.phase.toNat = 31 ∧ s.hasRoom = true then [s.sr] else [] := by
  have phase31 : s.phase.toNat = 31 ↔ s.phase = 31#6 := BitVec.toNat_inj (y := 31#6)
  simp [pushedNext, event, enabled, phase31]

/-- No step but an enabled tick pushes (R43). -/
theorem pushedNext_eq_nil {s : State} (h : (∃ d, s.nextEvent.1 = .tick d) → s.en = false) : pushedNext s = [] := by
  unfold pushedNext
  cases event : s.nextEvent.1 with
  | tick d => simp [h ⟨d, event⟩]
  | _ => rfl

/-- Settles O53: a tick pushes, a TAKE takes, and every other step leaves the queue and `LATEST` as they are. -/
theorem stepKeepsPublished : Obligations.StepKeepsPublished := by
  intro pushed s t legal published h
  cases step_kind s t h with
  | tick d event enabled phase fifo latest same =>
    refine published.push ?_ latest
    rw [fifo, pushedNext_tick event enabled]
    split <;> simp
  | take w event phase fifo latest same =>
    rw [pushedNext_eq_nil (by simp [event]), List.append_nil]
    exact published.take fifo latest
  | environment disabled params keeps =>
    have clean := legal.disabled_clean disabled
    obtain ⟨-, fifo, latest⟩ := keeps clean
    refine published.push ?_ (by rw [latest, clean.2.2])
    rw [pushedNext_eq_nil fun _ => disabled, fifo, clean.2.1, List.append_nil]
  | quiet event phase fifo latest same =>
    refine published.push ?_ latest
    rw [pushedNext_eq_nil event, fifo, List.append_nil]

/-! ### The pins -/

/-- `CLK` in the bits of `PHASE` (R17). -/
theorem clk_eq_bits (s : State) : s.clk = (s.en && !s.phase.getLsbD 5 && s.phase.getLsbD 0) := by
  have key : ∀ t : Phase, ((phaseL t == 0) && (phaseP t == 1)) = (!t.getLsbD 5 && t.getLsbD 0) := by decide
  simp only [State.clk, Bool.and_assoc, key]

/-- `LATCH` in the bits of `PHASE` (R18). -/
theorem latch_eq_bits (s : State) : s.latch = (s.en && s.phase.getLsbD 5) := by
  have key : ∀ t : Phase, (phaseL t == 1) = t.getLsbD 5 := by decide
  simp only [State.latch, key]

theorem pinsDistinct_iff (s : State) :
    s.pinsDistinct = true ↔ s.config.dataBase ≠ s.config.clkBase ∧ s.config.dataBase + 1 ≠ s.config.clkBase ∧
      s.config.dataBase ≠ s.config.clkBase + 1 := by
  simp [State.pinsDistinct, and_assoc]

/-- After step 2 the pins of `CLK_BASE` are driven with `CLK` and `LATCH` (R31). -/
theorem pinRole_clkBase (s : State) (hc : s.initDone.clkBase = true) :
    s.pinRole s.config.clkBase = .driven s.clk ∧ s.pinRole (s.config.clkBase + 1) = .driven s.latch := by
  simp [State.pinRole, hc]

/-- After step 1 the pins of `DATA_BASE` are the two lines, where the outputs do not claim them (R30). -/
theorem pinRole_dataBase (s : State) (hd : s.initDone.dataBase = true) (distinct : s.pinsDistinct = true) :
    s.pinRole s.config.dataBase = .dataLine 0 ∧ s.pinRole (s.config.dataBase + 1) = .dataLine 1 := by
  obtain ⟨h0, h1, h2⟩ := (pinsDistinct_iff s).1 distinct
  simp [State.pinRole, hd, h0, h1, h2]

/-- Settles O28: the roles of the two pairs of pins, with `CLK` and `LATCH` read off the bits of `PHASE`. -/
theorem pinsCarryOutputs : Obligations.PinsCarryOutputs := by
  intro s hd hc distinct
  obtain ⟨clk, latch⟩ := pinRole_clkBase s hc
  rw [clk, latch, clk_eq_bits, latch_eq_bits]
  exact ⟨rfl, rfl, pinRole_dataBase s hd distinct⟩

/-! ### The cycle of `PHASE` and the frozen configuration -/

/-- A queue within its depth has no room exactly when it is full (R21, R23). -/
theorem hasRoom_eq_false_iff {s : State} (fits : s.fifo.length ≤ s.params.fifoDepth) :
    s.hasRoom = false ↔ s.fifo.length = s.params.fifoDepth := by
  rw [← Bool.not_eq_true, State.hasRoom_iff]
  omega

/-- Only an enabled tick moves the `PHASE` of a legal state (R15, R121). -/
theorem phase_of_not_tick {s t : State} (legal : Legal s) (h : step s = .next t)
    (other : ¬ (s.en = true ∧ ∃ d, s.nextEvent.1 = .tick d)) : t.phase = s.phase := by
  cases step_kind s t h with
  | tick d event enabled => exact absurd ⟨enabled, d, event⟩ other
  | take w event phase => exact phase
  | environment disabled params keeps =>
    have clean := legal.disabled_clean disabled
    rw [(keeps clean).1, clean.1]
  | quiet event phase => exact phase

/-- An enabled tick moves `PHASE` to its successor, except in the stall (R15, R108). -/
theorem phase_of_tick {s t : State} (h : step s = .next t) (enabled : s.en = true)
    (tick : ∃ d, s.nextEvent.1 = .tick d) :
    t.phase =
      if s.phase.toNat = 31 ∧ s.hasRoom = false ∧ s.params.fullPolicy = .stall then s.phase else nextPhase s.phase := by
  cases step_kind s t h with
  | tick d event enabled phase => exact phase
  | take w event => simp [event] at tick
  | environment disabled => simp [enabled] at disabled
  | quiet event => simp [enabled] at event; simp [event] at tick

/-- Settles O29: `phase_of_tick` in numbers, where under the invariants no room means a full queue, and `phase_of_not_tick`. -/
theorem phaseFollowsCycle : Obligations.PhaseFollowsCycle := by
  intro s t e rest legal listed h
  have event : s.nextEvent.1 = e := by rw [s.nextEvent_listed e rest listed]
  subst event
  refine ⟨fun ⟨enabled, tick⟩ => ?_, phase_of_not_tick legal h⟩
  have phase := phase_of_tick h enabled tick
  simp only [hasRoom_eq_false_iff legal.fifo_fits] at phase
  refine ⟨fun stalled => by rw [phase, if_pos stalled], fun moves => ?_⟩
  rw [phase, if_neg moves, nextPhase_toNat _ legal.phase_legal]

/-- Settles O55: of the four kinds of step only the Environment's writes the configuration, and it needs `EN` = 0. -/
theorem configurationFrozen : Obligations.ConfigurationFrozen := by
  intro s t enabled h
  have same : SameSetup s t := by
    cases step_kind s t h with
    | environment disabled => simp [enabled] at disabled
    | tick | take | quiet => assumption
  exact ⟨same.en.trans enabled, same.irqEn, same.config, same.initDone, same.params⟩

/-! ### The reset state -/

/-- Settles O47: the outputs follow from `EN` = 0, the flags from the empty queue. -/
theorem resetLeavesValues : Obligations.ResetLeavesValues := by
  intro p depth
  have full : (State.resetWith p).full = false := decide_eq_false fun h : 0 = p.fifoDepth => by omega
  exact ⟨rfl, rfl, rfl, rfl, rfl, rfl, rfl, rfl, rfl, rfl, full, rfl⟩

/-- Settles O50: the reset state is clean, disabled and outside an invocation. -/
theorem resetIsLegal : Obligations.ResetIsLegal := by
  intro p
  have clean : Clean (State.resetWith p) := ⟨rfl, rfl, rfl⟩
  exact ⟨clean.legal, ⟨by simp [State.resetWith], by simp [State.resetWith]⟩, [], rfl, rfl⟩

end Sys2Proof.Safety
end

section
/-! The storage and the steps on it (`20_memory.md`): which agent writes the FIFO and `LATEST`, and how a step comes to run the
operation that the presented selector stands for. -/

namespace Sys2Proof.Safety

open Sys2Proof.Machine

/-! ### From the presented selector to the operation (R53, R71) -/

/-- An event that presents a selector is run by decoding it: all but the Environment's reset and initialisation steps (R71). -/
theorem runEvent_of_presented {e : Event} {s : State} {sel : Selector} (h : s.presented e = some sel) :
    runEvent e s = runSelected (some sel) s := by
  cases e with
  | init a => simp [State.presented] at h
  | rst => simp [State.presented] at h
  | _ => simp only [runEvent, h]

theorem runSelected_of_decode {sel : Selector} {i : Instr} (h : decode sel = .ok i) (s : State) :
    runSelected (some sel) s = exec i s := by
  simp [runSelected, h]

/-- A tick or a move of the Publisher that presents no selector changes nothing (R118; log 9). -/
theorem runEvent_idle {e : Event} {s : State} (kind : e = .publisher ∨ ∃ d, e = .tick d) (h : s.presented e = none) :
    runEvent e s = .next s := by
  obtain rfl | ⟨d, rfl⟩ := kind <;> simp [runEvent, h, runSelected]

/-- Settles O46: a step runs its event, and that is the operation of the event's selector, where it presents one. -/
theorem stepRunsSelectedOperation : Obligations.StepRunsSelectedOperation := by
  refine fun s => ⟨fun legal => ⟨?listed, fun nothing => ?free⟩, step_reserved s⟩
  case listed =>
    rintro e rest t listed rfl
    have run : step s = runEvent e ((s.setSched rest).drive e) := step_listed s e rest legal listed
    refine ⟨fun sel i presented decoded => ?_, fun kind idle => run.trans (runEvent_idle kind idle)⟩
    exact run.trans ((runEvent_of_presented presented).trans (runSelected_of_decode decoded _))
  case free =>
    have listed := step_listed { s with sched := [Config.freeEvent s.draws], draws := s.draws + 1 } _ [] legal rfl
    rw [step_free s legal nothing, listed]
    simp [State.setDraws, State.setSched, nothing]

/-! ### Who writes the FIFO and `LATEST` (R43, R44, R45) -/

/-- The Publisher takes a word off the queue only inside an invocation (R75, R131). -/
theorem pubActive_of_take {s t : State} {w : Word} (h : step s = .next t) (event : s.nextEvent.1 = .publisher)
    (fifo : s.fifo = w :: t.fifo) : s.pubActive = true := by
  obtain ⟨-, run⟩ := step_next s t h
  obtain ⟨sched, draws, data, met⟩ := s.met_eq
  rw [met, event] at run
  rcases runPublisher_next _ _ run with ⟨-, -, rfl⟩ | ⟨-, -, rfl⟩ | ⟨active, -⟩ | ⟨active, -⟩
  · simp at fifo
  · simp [State.takeInterrupt, State.setPubActive] at fifo
  · exact active
  · exact active

/-- Settles O54: by the kind of the step; an enabled tick pushes at `PHASE` 31 with room, a TAKE pops, no other step writes. -/
theorem ownersWriteStorage : Obligations.OwnersWriteStorage := by
  intro s t enabled h
  cases step_kind s t h with
  | tick d event _ phase fifo latest same =>
    by_cases push : s.phase.toNat = 31 ∧ s.hasRoom = true
    · obtain ⟨phase31, room⟩ := push
      rw [if_pos ⟨phase31, room⟩] at fifo
      exact .inr (.inr ⟨⟨d, event⟩, BitVec.eq_of_toNat_eq phase31, (s.hasRoom_iff).1 room, fifo, latest⟩)
    · rw [if_neg push] at fifo
      exact .inl ⟨fifo, latest⟩
  | take w event phase fifo latest same =>
    exact .inr (.inl ⟨event, pubActive_of_take h event fifo, w, t.fifo, fifo, rfl, latest⟩)
  | environment disabled => simp [enabled] at disabled
  | quiet event phase fifo latest same => exact .inl ⟨fifo, latest⟩

end Sys2Proof.Safety
end

section
/-! Selectors (`30_encoding.md`): `PHASE` as its three fields, the decoder and the encoder against each other, both against the
opcode table, and the SEQ map with the outputs of its ticks. -/

namespace Sys2Proof.Encoding

open Sys2Proof.Machine

/-! ### `PHASE` and its fields (R15) -/

theorem phaseL_phaseWord (l : BitVec 1) (k : BitVec 4) (p : BitVec 1) : phaseL (phaseWord l k p) = l := by
  revert l k p; decide

theorem phaseK_phaseWord (l : BitVec 1) (k : BitVec 4) (p : BitVec 1) : phaseK (phaseWord l k p) = k := by
  revert l k p; decide

theorem phaseP_phaseWord (l : BitVec 1) (k : BitVec 4) (p : BitVec 1) : phaseP (phaseWord l k p) = p := by
  revert l k p; decide

theorem phaseWord_fields (t : Phase) : phaseWord (phaseL t) (phaseK t) (phaseP t) = t := by
  revert t; decide

/-- The SEQ map in the fields of `PHASE` (R73). -/
theorem decodeSeq_phaseWord (l : BitVec 1) (k : BitVec 4) (p : BitVec 1) :
    decodeSeq (phaseWord l k p) =
      if l = 1 then if k = 0 then .ok (.latch p) else .error .reservedPhase
      else if p = 0 then .ok (.settle k)
      else if k = 15 then .ok .strobePush
      else .ok (.strobe k) := by
  simp only [decodeSeq, phaseL_phaseWord, phaseK_phaseWord, phaseP_phaseWord]

/-! ### Decoder against encoder -/

/-- Settles O1: a SEQ operation is read back off the fields of its `PHASE`; the other selectors are constants beside the operands. -/
theorem encodeThenDecode : Obligations.EncodeThenDecode := by
  intro i wf
  cases i with
  | latch p => simp [encode, decode, decodeSeq_phaseWord]
  | settle k => simp [encode, decode, decodeSeq_phaseWord]
  | strobe k =>
    have notPush : k ≠ 15 := bne_iff_ne.1 wf
    simpa [encode, decode, decodeSeq_phaseWord] using notPush
  | _ => rfl

/-- `i` is well formed and its own selector has the format and the bits of `sel`; the operand ports may differ (R71). -/
structure StandsFor (sel : Selector) (i : Instr) : Prop where
  wf : i.wf = true
  format : (encode i).format = sel.format
  bits : (encode i).bits = sel.bits

/-- SEQ has no operand ports, so an operation decoded from `PHASE` encodes to that very `PHASE` (R73). -/
theorem encode_of_decodeSeq {t : Phase} {i : Instr} (h : decodeSeq t = .ok i) : i.wf = true ∧ encode i = .seq t := by
  have fields := phaseWord_fields t
  unfold decodeSeq at h
  split at h
  case isTrue high =>
    split at h
    case isTrue zero =>
      rw [high, zero] at fields
      cases h
      exact ⟨rfl, congrArg Selector.seq fields⟩
    case isFalse => cases h
  case isFalse notHigh =>
    rw [(BitVec.eq_zero_or_eq_one (phaseL t)).resolve_right notHigh] at fields
    split at h
    case isTrue even =>
      rw [even] at fields
      cases h
      exact ⟨rfl, congrArg Selector.seq fields⟩
    case isFalse odd =>
      rw [(BitVec.eq_zero_or_eq_one (phaseP t)).resolve_left odd] at fields
      split at h
      case isTrue last =>
        rw [last] at fields
        cases h
        exact ⟨rfl, congrArg Selector.seq fields⟩
      case isFalse notLast =>
        cases h
        exact ⟨bne_iff_ne.2 notLast, congrArg Selector.seq fields⟩

theorem twoBits_cases (x : BitVec 2) : x = 0 ∨ x = 1 ∨ x = 2 ∨ x = 3 := by
  revert x; decide

theorem decodeFn_standsFor (sel : BitVec 2) (pad : Pad) (x : Word) :
    StandsFor (.fn sel pad x) (decodeFn sel pad x) := by
  obtain rfl | rfl | rfl | rfl := twoBits_cases sel <;> exact ⟨rfl, rfl, rfl⟩

theorem standsFor_of_decodePrim {sel : BitVec 2} {pad : Pad} {button : ButtonCode} {target : Position} {x : Word} {i : Instr}
    (h : decodePrim sel pad button target x = .ok i) : StandsFor (.prim sel pad button target x) i := by
  obtain rfl | rfl | rfl | rfl := twoBits_cases sel <;> cases h <;> exact ⟨rfl, rfl, rfl⟩

/-- Format by format, a selector that decodes stands for the operation decoded (R73 to R76). -/
theorem standsFor_of_decode {sel : Selector} {i : Instr} (h : decode sel = .ok i) : StandsFor sel i := by
  cases sel with
  | seq t =>
    obtain ⟨wf, same⟩ := encode_of_decodeSeq h
    exact ⟨wf, by rw [same], by rw [same]⟩
  | ctrl en => obtain rfl | rfl := BitVec.eq_zero_or_eq_one en <;> cases h; exact ⟨rfl, rfl, rfl⟩
  | entry irqPub => obtain rfl | rfl | rfl | rfl := twoBits_cases irqPub <;> cases h; exact ⟨rfl, rfl, rfl⟩
  | pub pending => obtain rfl | rfl := BitVec.eq_zero_or_eq_one pending <;> cases h <;> exact ⟨rfl, rfl, rfl⟩
  | fn sel pad x => cases h; exact decodeFn_standsFor sel pad x
  | prim => exact standsFor_of_decodePrim h

/-- Settles O2: the three parts of `standsFor_of_decode`. -/
theorem decodeThenEncode : Obligations.DecodeThenEncode := by
  intro sel i h
  obtain ⟨wf, format, bits⟩ := standsFor_of_decode h
  exact ⟨wf, format, bits⟩

/-! ### Decoder against opcode table -/

/-- A row looks at the format and the selector bits only, so it cannot tell a selector from the operation's own. -/
theorem StandsFor.accepts {sel : Selector} {i : Instr} (h : StandsFor sel i) (r : OpcodeRow) :
    r.accepts sel = r.accepts (encode i) := by
  simp only [OpcodeRow.accepts, h.format, h.bits]

/-- The per-instruction lemmas of `Laws/PerInstr.lean` as one. -/
theorem matchesTable_statement (i : Instr) : Laws.MatchesTable.Statement i := by
  cases i with
  | latch p => exact Laws.MatchesTable.latch p
  | settle k => exact Laws.MatchesTable.settle k
  | strobe k => exact Laws.MatchesTable.strobe k
  | strobePush => exact Laws.MatchesTable.strobePush
  | enable => exact Laws.MatchesTable.enable
  | enter => exact Laws.MatchesTable.enter
  | take => exact Laws.MatchesTable.take
  | ret => exact Laws.MatchesTable.ret
  | currentState => exact Laws.MatchesTable.currentState
  | toSingleStick x pad => exact Laws.MatchesTable.toSingleStick x pad
  | toDualLeft x pad => exact Laws.MatchesTable.toDualLeft x pad
  | toDualRight x pad => exact Laws.MatchesTable.toDualRight x pad
  | bitPosition pad button => exact Laws.MatchesTable.bitPosition pad button
  | bitMask pad button => exact Laws.MatchesTable.bitMask pad button
  | extractAndRelocate x pad button target => exact Laws.MatchesTable.extractAndRelocate x pad button target

/-- No row takes a reserved `PHASE` (R72). -/
theorem table_rejects_reservedPhase (t : Phase) (h : 34 ≤ t.toNat) :
    opcodeTable.find? (fun r => r.accepts (.seq t)) = none := by
  revert t; decide

/-- No row accepts a selector the decoder rejects: `PHASE` 34 to 63, a disable, no entry, `prim` = 3 (R72, R75, R78). -/
theorem table_rejects_of_decode_error {sel : Selector} {r : Reject} (h : decode sel = .error r) :
    opcodeTable.find? (fun row => row.accepts sel) = none := by
  cases sel with
  | seq t =>
    refine table_rejects_reservedPhase t (Nat.le_of_not_lt fun legal => ?_)
    simp [decode, decodeSeq_legal t (Nat.le_of_lt_succ legal)] at h
  | ctrl en => obtain rfl | rfl := BitVec.eq_zero_or_eq_one en <;> cases h; rfl
  | entry irqPub => obtain rfl | rfl | rfl | rfl := twoBits_cases irqPub <;> cases h <;> rfl
  | pub pending => obtain rfl | rfl := BitVec.eq_zero_or_eq_one pending <;> cases h
  | fn => cases h
  | prim sel pad button target x =>
    obtain rfl | rfl | rfl | rfl := twoBits_cases sel <;> cases h
    simp [opcodeTable, OpcodeRow.accepts, Selector.format, Selector.bits]

/-- Settles O3: a row takes a decoded selector as it takes the operation's own, and takes no rejected one. -/
theorem decodeFollowsTable : Obligations.DecodeFollowsTable := by
  intro sel
  cases h : decode sel with
  | ok i =>
    have standsFor := standsFor_of_decode h
    simp only [standsFor.accepts]
    exact matchesTable_statement i standsFor.wf
  | error r =>
    rw [table_rejects_of_decode_error h]
    rfl

/-! ### The SEQ map and its outputs -/

/-- The even positions of the map: `PHASE` = 2`k` is SETTLE `k` (R73). -/
theorem decodeSeq_even {t : Phase} {k : Nat} (bound : k ≤ 15) (even : t.toNat = 2 * k) :
    decodeSeq t = .ok (.settle (BitVec.ofNat 4 k)) := by
  rw [decodeSeq_legal t (by omega), even, if_neg (by omega), if_neg (by omega), if_neg (by omega), if_pos (by omega),
    Nat.mul_div_cancel_left k (by decide)]

/-- The odd positions below 31: `PHASE` = 2`k` + 1 is STROBE `k` (R73). -/
theorem decodeSeq_odd {t : Phase} {k : Nat} (bound : k ≤ 14) (odd : t.toNat = 2 * k + 1) :
    decodeSeq t = .ok (.strobe (BitVec.ofNat 4 k)) := by
  have half : (2 * k + 1) / 2 = k := by omega
  rw [decodeSeq_legal t (by omega), odd, if_neg (by omega), if_neg (by omega), if_neg (by omega), if_neg (by omega), half]

/-- Settles O5: the map position by position, and `LATCH` and `CLK` in numbers from `latch_eq` and `clk_eq`. -/
theorem sequencerOpcodeMap : Obligations.SequencerOpcodeMap := by
  refine fun s d => ⟨fun disabled => by simp [State.presented, disabled], fun enabled => ?_⟩
  simp only [decode, s.latch_eq, s.clk_eq, enabled, Bool.true_and]
  refine ⟨by simp [State.presented, enabled], fun at32 => ?latch0, fun at33 => ?latch1, fun k bound even => ?settle,
    fun k bound odd => ?strobe, fun at31 => ?push, decodeSeq_reserved s.phase⟩
  case latch0 => simp [decodeSeq_legal, at32]
  case latch1 => simp [decodeSeq_legal, at33]
  case settle =>
    exact ⟨decodeSeq_even bound even, by simp [even]; omega, by simp [even]⟩
  case strobe =>
    exact ⟨decodeSeq_odd bound odd, by simp [odd]; omega, by simp [odd]; omega⟩
  case push => simp [decodeSeq_legal, at31]

/-- Settles O4: eleven closed words, each decoded by evaluation. -/
theorem writtenWordsDecode : Obligations.WrittenWordsDecode := by
  unfold Obligations.WrittenWordsDecode
  decide

end Sys2Proof.Encoding
end

section
/-! The Bit-Position Algebra (`41_bit_position.md`): the index of a pair of operands and back, the mask of one bit, and one
relocation and many, on the bit rules `bitPos_toNat`, `bitMaskOf_getLsbD` and `relocate_getLsbD` of `Laws/Operands.lean`. -/

namespace Sys2Proof.BitAlgebra

open Sys2Proof.Machine

/-! ### The three primitives as operations: the answer on the port and nothing else (R29) -/

@[simp] theorem exec_bitPosition (pad : Pad) (button : ButtonCode) (s : State) :
    exec (.bitPosition pad button) s = .next { s with primResult := .index (bitPos pad button) } := rfl

@[simp] theorem exec_bitMask (pad : Pad) (button : ButtonCode) (s : State) :
    exec (.bitMask pad button) s = .next { s with primResult := .word (bitMaskOf pad button) } := rfl

@[simp] theorem exec_extractAndRelocate (x : Word) (pad : Pad) (button : ButtonCode) (t : Position) (s : State) :
    exec (.extractAndRelocate x pad button t) s = .next { s with primResult := .word (relocate x pad button t) } := rfl

/-! ### The index (R86, R87) -/

/-- The upper four bits of the index are the button. -/
theorem bitPos_half (pad : Pad) (button : ButtonCode) : (bitPos pad button).toNat >>> 1 = button.toNat := by
  rw [bitPos_toNat, Nat.shiftRight_one]
  omega

/-- Bit 0 of the index is the pad. -/
theorem bitPos_parity (pad : Pad) (button : ButtonCode) : (bitPos pad button).toNat % 2 = pad.toNat := by
  rw [bitPos_toNat]
  omega

theorem bitPos_injective {pad pad' : Pad} {button button' : ButtonCode} (same : bitPos pad button = bitPos pad' button') :
    pad = pad' ∧ button = button' := by
  constructor <;> apply BitVec.eq_of_toNat_eq
  · rw [← bitPos_parity pad button, same, bitPos_parity]
  · rw [← bitPos_half pad button, same, bitPos_half]

/-- A ButtonIndex has its two bits among bits 0 to 23 of the word (R62, R87). -/
theorem bitPos_le_of_buttonIndex (pad : Pad) {button : ButtonCode} (index : button.toNat ≤ 11) :
    (bitPos pad button).toNat ≤ 23 := by
  rw [bitPos_toNat]
  omega

/-- Settles O6: the value of the index by `bitPos_toNat`. -/
theorem bitPositionAnswers : Obligations.BitPositionAnswers :=
  fun s pad button => ⟨bitPos pad button, exec_bitPosition pad button s, bitPos_toNat pad button⟩

theorem primResult_of_exec_bitPosition {pad : Pad} {button : ButtonCode} {s t : State}
    (h : exec (.bitPosition pad button) s = .next t) : t.primResult = .index (bitPos pad button) := by
  rw [exec_bitPosition] at h
  cases h
  rfl

/-- Settles O7: equal next states carry equal indices, and the index gives the operands back. -/
theorem bitPositionInjective : Obligations.BitPositionInjective := by
  intro s t pad pad' button button' h
  have answer := primResult_of_exec_bitPosition h
  refine ⟨fun h' => bitPos_injective ?same, bitPos pad button, answer, bitPos_half pad button, bitPos_parity pad button,
    bitPos_le_of_buttonIndex pad⟩
  exact PrimResult.index.inj (answer.symm.trans (primResult_of_exec_bitPosition h'))

/-! ### The mask (R88) -/

theorem bitMaskOf_eq (pad : Pad) (button : ButtonCode) :
    bitMaskOf pad button = 1#32 <<< (2 * button.toNat + pad.toNat) := by
  rw [bitMaskOf, bitPos_toNat]

/-- As a number the mask is the power of two of the index, which is below the width of the word. -/
theorem bitMaskOf_toNat (pad : Pad) (button : ButtonCode) :
    (bitMaskOf pad button).toNat = 2 ^ (bitPos pad button).toNat := by
  rw [bitMaskOf, ← BitVec.twoPow_eq, BitVec.toNat_twoPow_of_lt (bitPos pad button).isLt]

/-- Settles O8: bit by bit `bitMaskOf_getLsbD`, and the bound is 2 ^ 23. -/
theorem bitMaskAnswers : Obligations.BitMaskAnswers := by
  refine fun s pad button => ⟨bitMaskOf pad button, exec_bitMask pad button s, bitMaskOf_eq pad button,
    bitMaskOf_getLsbD pad button, fun index => ?_⟩
  calc (bitMaskOf pad button).toNat
      = 2 ^ (bitPos pad button).toNat := bitMaskOf_toNat pad button
    _ ≤ 2 ^ 23 := Nat.pow_le_pow_right (by decide) (bitPos_le_of_buttonIndex pad index)

/-! ### One relocation (R90, R91) -/

theorem relocate_of_lt {x : Word} {pad : Pad} {button : ButtonCode} {t : Position}
    (above : (bitPos pad button).toNat < t.toNat) :
    relocate x pad button t = (x &&& bitMaskOf pad button) <<< (t.toNat - (bitPos pad button).toNat) :=
  if_pos above

theorem relocate_of_gt {x : Word} {pad : Pad} {button : ButtonCode} {t : Position}
    (below : t.toNat < (bitPos pad button).toNat) :
    relocate x pad button t = (x &&& bitMaskOf pad button) >>> ((bitPos pad button).toNat - t.toNat) :=
  (if_neg (Nat.lt_asymm below)).trans (if_pos below)

theorem relocate_of_eq {x : Word} {pad : Pad} {button : ButtonCode} {t : Position}
    (here : t.toNat = (bitPos pad button).toNat) : relocate x pad button t = x &&& bitMaskOf pad button :=
  (if_neg here.not_gt).trans (if_neg here.not_lt)

/-- Settles O9: the three branches of `relocate`, with the index and the mask in numbers. -/
theorem relocateShifts : Obligations.RelocateShifts := by
  rintro s x pad button target _ _ rfl rfl
  rw [← bitMaskOf_eq, ← bitPos_toNat]
  exact ⟨_, exec_extractAndRelocate x pad button target s, relocate_of_lt, relocate_of_gt, relocate_of_eq⟩

/-- The closed form: the source bit, moved to the target (R91). -/
theorem relocate_eq_shiftLeft (x : Word) (pad : Pad) (button : ButtonCode) (t : Position) :
    relocate x pad button t =
      (if x.getLsbD (2 * button.toNat + pad.toNat) then 1#32 else 0#32) <<< t.toNat := by
  refine BitVec.eq_of_getLsbD_eq fun j _ => ?_
  rw [relocate_getLsbD]
  cases x.getLsbD (2 * button.toNat + pad.toNat) with
  | false => simp
  | true =>
    have target : t.toNat < 32 := t.isLt
    rw [if_pos rfl, ← BitVec.twoPow_eq, BitVec.getLsbD_twoPow]
    simp [target, eq_comm]

/-- Settles O10: the closed form and the same bit by bit. -/
theorem relocateOneBit : Obligations.RelocateOneBit :=
  fun s x pad button target => ⟨relocate x pad button target, exec_extractAndRelocate x pad button target s,
    relocate_eq_shiftLeft x pad button target, relocate_getLsbD x pad button target⟩

/-! ### Relocations of one word to several targets (R89) -/

theorem relocate_getLsbD_target (x : Word) (pad : Pad) (button : ButtonCode) (t : Position) :
    (relocate x pad button t).getLsbD t.toNat = x.getLsbD (2 * button.toNat + pad.toNat) := by
  simp [relocate_getLsbD]

theorem relocate_getLsbD_of_ne {x : Word} {pad : Pad} {button : ButtonCode} {t : Position} {j : Nat} (other : j ≠ t.toNat) :
    (relocate x pad button t).getLsbD j = false := by
  simp [relocate_getLsbD, other]

/-- A list of moves, each a source button and a target, as the words they relocate out of `x`. -/
def relocated (x : Word) (pad : Pad) (moves : List (ButtonCode × Position)) : List Word :=
  moves.map fun m => relocate x pad m.1 m.2

/-- The OR of the relocations, as the converters build their bytes. -/
def orOfMoves (x : Word) (pad : Pad) (moves : List (ButtonCode × Position)) : Word :=
  (relocated x pad moves).foldr (· ||| ·) 0

/-- The sum of the relocations. -/
def sumOfMoves (x : Word) (pad : Pad) (moves : List (ButtonCode × Position)) : Word :=
  (relocated x pad moves).foldr (· + ·) 0

section

variable (x : Word) (pad : Pad) (m : ButtonCode × Position) {moves : List (ButtonCode × Position)}

theorem orOfMoves_cons : orOfMoves x pad (m :: moves) = relocate x pad m.1 m.2 ||| orOfMoves x pad moves := rfl

theorem sumOfMoves_cons : sumOfMoves x pad (m :: moves) = relocate x pad m.1 m.2 + sumOfMoves x pad moves := rfl

/-- Where no move has its target the OR is 0. -/
theorem orOfMoves_getLsbD_of_notMem {t : Position} (free : t ∉ moves.map Prod.snd) :
    (orOfMoves x pad moves).getLsbD t.toNat = false := by
  induction moves with
  | nil => exact BitVec.getLsbD_zero
  | cons m rest ih =>
    obtain ⟨notHead, notRest⟩ := List.ne_and_not_mem_of_not_mem_cons free
    have other : t.toNat ≠ m.2.toNat := fun same => notHead (BitVec.eq_of_toNat_eq same)
    rw [orOfMoves_cons, BitVec.getLsbD_or, relocate_getLsbD_of_ne other, ih notRest, Bool.or_self]

/-- A relocation to a target of its own shares no set bit with the others. -/
theorem relocate_and_orOfMoves (free : m.2 ∉ moves.map Prod.snd) :
    relocate x pad m.1 m.2 &&& orOfMoves x pad moves = 0#32 := by
  refine BitVec.eq_of_getLsbD_eq fun j _ => ?_
  rw [BitVec.getLsbD_and, BitVec.getLsbD_zero]
  by_cases target : j = m.2.toNat
  · rw [target, orOfMoves_getLsbD_of_notMem x pad free, Bool.and_false]
  · rw [relocate_getLsbD_of_ne target, Bool.false_and]

/-- No two relocations set the same bit, so no addition carries. -/
theorem orOfMoves_eq_sumOfMoves (distinct : (moves.map Prod.snd).Nodup) :
    orOfMoves x pad moves = sumOfMoves x pad moves := by
  induction moves with
  | nil => rfl
  | cons m rest ih =>
    obtain ⟨free, distinctRest⟩ := List.nodup_cons.1 distinct
    rw [sumOfMoves_cons, ← ih distinctRest, BitVec.add_eq_or_of_and_eq_zero _ _ (relocate_and_orOfMoves x pad m free),
      orOfMoves_cons]

/-- The OR holds at each move's target the bit of that move's source. -/
theorem orOfMoves_getLsbD_target (distinct : (moves.map Prod.snd).Nodup) {m : ButtonCode × Position} (mem : m ∈ moves) :
    (orOfMoves x pad moves).getLsbD m.2.toNat = x.getLsbD (2 * m.1.toNat + pad.toNat) := by
  induction moves with
  | nil => cases mem
  | cons first rest ih =>
    obtain ⟨free, distinctRest⟩ := List.nodup_cons.1 distinct
    rw [orOfMoves_cons, BitVec.getLsbD_or]
    cases mem with
    | head => rw [relocate_getLsbD_target, orOfMoves_getLsbD_of_notMem x pad free, Bool.or_false]
    | tail _ inRest =>
      have other : m.2.toNat ≠ first.2.toNat := fun same =>
        free (BitVec.eq_of_toNat_eq same ▸ List.mem_map_of_mem inRest)
      rw [relocate_getLsbD_of_ne other, Bool.false_or, ih distinctRest inRest]

end

/-- Settles O11: by induction on the moves, each relocation's one bit apart from the bits of the rest. -/
theorem relocationsCompose : Obligations.RelocationsCompose :=
  fun x pad _ distinct => ⟨orOfMoves_eq_sumOfMoves x pad distinct, fun _ => orOfMoves_getLsbD_target x pad distinct⟩

end Sys2Proof.BitAlgebra
end

section
/-! The Sequencer (`42_sequencer.md`): each operation at the `PHASE` that selects it and outside it, the refusals of ENABLE and of
the writes after it, the stall, and one whole cycle of 34 ticks. -/

namespace Sys2Proof.Sequencer

open Sys2Proof.Machine Sys2Proof.Safety

/-! ### Each operation at the `PHASE` that selects it (R73, R103 to R108) -/

section

variable {s : State} (enabled : s.en = true)
include enabled

theorem exec_latch {p : BitVec 1} (selected : s.phase = phaseWord 1 0 p) :
    exec (.latch p) s = .next { s with phase := nextPhase s.phase } :=
  s.onPhase_selected _ _ enabled selected

theorem exec_settle {k : BitVec 4} (selected : s.phase = phaseWord 0 k 0) :
    exec (.settle k) s = .next { s with sr := shiftInSample s.sr s.data, phase := nextPhase s.phase } :=
  s.onPhase_selected _ _ enabled selected

theorem exec_strobe {k : BitVec 4} (notLast : k ≠ 15) (selected : s.phase = phaseWord 0 k 1) :
    exec (.strobe k) s = .next { s with phase := nextPhase s.phase } :=
  (if_neg notLast).trans (s.onPhase_selected _ _ enabled selected)

theorem exec_strobePush (at31 : s.phase = 31) : exec .strobePush s = .next s.strobePush :=
  s.onPhase_selected _ _ enabled at31

end

/-- STROBE_PUSH with room (R107). -/
theorem strobePush_of_room {s : State} (at31 : s.phase = 31) (room : s.fifo.length < s.params.fifoDepth) :
    s.strobePush = { s with fifo := s.fifo ++ [s.sr], phase := 32 } := by
  have push : s.strobePush = (s.pushWord s.sr).advance := if_pos ((s.hasRoom_iff).2 room)
  rw [push, State.advance_eq, State.pushWord_eq, State.setFifo_phase, at31]
  rfl

/-- STROBE_PUSH without room under `stall` (R108). -/
theorem strobePush_of_stall {s : State} (full : s.fifo.length = s.params.fifoDepth) (stall : s.params.fullPolicy = .stall) :
    s.strobePush = s := by
  simp [State.strobePush, State.hasRoom, full, stall]

/-- STROBE_PUSH without room under `drop_new` (R108). -/
theorem strobePush_of_dropNew {s : State} (at31 : s.phase = 31) (full : s.fifo.length = s.params.fifoDepth)
    (dropNew : s.params.fullPolicy = .dropNew) : s.strobePush = { s with phase := 32 } := by
  have drop : s.strobePush = s.advance := by simp [State.strobePush, State.hasRoom, full, dropNew]
  rw [drop, State.advance_eq, at31]
  rfl

/-- A position below 32 by its number: `K` and `P` are its quotient and remainder by 2 (R15). -/
theorem phase_eq_phaseWord {t : Phase} {k : BitVec 4} {p : BitVec 1} (number : t.toNat = 2 * k.toNat + p.toNat) :
    t = phaseWord 0 k p :=
  BitVec.eq_of_toNat_eq (by rw [phaseWord_toNat, number]; simp)

/-! The outputs by the number of `PHASE` (R17, R18). -/

theorem latch_eq_false {s : State} (below : s.phase.toNat < 32) : s.latch = false := by
  rw [s.latch_eq, decide_eq_false (by omega), Bool.and_false]

theorem clk_eq_false {s : State} (even : s.phase.toNat % 2 = 0) : s.clk = false := by
  rw [s.clk_eq, decide_eq_false (p := _ = 1) (by omega), Bool.and_false]

theorem clk_eq_true {s : State} (enabled : s.en = true) (below : s.phase.toNat < 32) (odd : s.phase.toNat % 2 = 1) :
    s.clk = true := by
  rw [s.clk_eq, enabled, decide_eq_true below, decide_eq_true odd]
  rfl

/-- Settles O20: the two positions of LATCH, with the outputs read off their numbers. -/
theorem latchAdvances : Obligations.LatchAdvances := by
  refine fun s enabled => ⟨fun at32 => ?_, fun at33 => ?_⟩
  · have run : exec (.latch 0) s = .next { s with phase := 33 } := by
      rw [exec_latch enabled (p := 0) at32, at32]
      rfl
    exact ⟨by simp [State.latch_eq, enabled, at32], clk_eq_false (by simp [at32]), _, run, rfl,
      by simp [State.latch_eq, enabled]⟩
  · have run : exec (.latch 1) s = .next { s with phase := 0 } := by
      rw [exec_latch enabled (p := 1) at33, at33]
      rfl
    exact ⟨by simp [State.latch_eq, enabled, at33], by simp [State.clk_eq, at33], _, run, rfl,
      latch_eq_false (by simp)⟩

/-- Settles O21: the bits of the new `SR` by `shiftInSample_getLsbD`. -/
theorem settleSamples : Obligations.SettleSamples := by
  intro s k enabled even
  have next := nextPhase_toNat s.phase (by omega)
  rw [even, if_neg (by omega), if_neg (by omega)] at next
  exact ⟨_, _, exec_settle enabled (phase_eq_phaseWord even), next, rfl, shiftInSample_getLsbD s.sr s.data 31,
    shiftInSample_getLsbD s.sr s.data 30, fun j low => (shiftInSample_getLsbD s.sr s.data j).trans (if_pos low),
    latch_eq_false (by omega), clk_eq_false (by omega)⟩

/-- Settles O22: `CLK` is 1 at the odd position and 0 at the even one that follows. -/
theorem strobeAdvances : Obligations.StrobeAdvances := by
  intro s k notLast enabled odd
  have notLast' : k.toNat ≠ 15 := BitVec.toNat_ne.1 notLast
  have next := nextPhase_toNat s.phase (by omega)
  rw [odd, if_neg (by omega), if_neg (by omega)] at next
  exact ⟨latch_eq_false (by omega), clk_eq_true enabled (by omega) (by omega), _, _,
    exec_strobe enabled notLast (phase_eq_phaseWord odd), rfl, next, clk_eq_false (next ▸ by omega)⟩

/-- Settles O23: the flags from the queue with `SR` at its tail. -/
theorem strobePushQueues : Obligations.StrobePushQueues := by
  intro s enabled at31 room
  have push := exec_strobePush enabled at31
  rw [strobePush_of_room at31 room] at push
  exact ⟨_, push, rfl, by simp [State.pending], by simp [State.full], latch_eq_false (by simp [at31]),
    clk_eq_true enabled (by simp [at31]) (by simp [at31])⟩

/-- Settles O24: one branch of STROBE_PUSH for each policy. -/
theorem strobePushFull : Obligations.StrobePushFull := by
  intro s enabled at31 full
  have push := exec_strobePush enabled at31
  refine ⟨fun stall => ?_, fun dropNew => ?_⟩
  · rw [strobePush_of_stall full stall] at push
    exact ⟨push, latch_eq_false (by simp [at31]), clk_eq_true enabled (by simp [at31]) (by simp [at31])⟩
  · rwa [strobePush_of_dropNew at31 full dropNew] at push

/-! ### An operation outside its selection (R186, R193; log 10) -/

theorem onPhase_disabled {s : State} (disabled : s.en = false) (sel : Phase) (f : State → State) :
    s.onPhase sel f = .next s :=
  if_pos disabled

theorem onPhase_unselected {s : State} {sel : Phase} (enabled : s.en = true) (other : s.phase ≠ sel) (f : State → State) :
    s.onPhase sel f = .refused .notSelected := by
  simp [State.onPhase, enabled, other]

/-- A well-formed SEQ operation is an effect guarded by the `PHASE` of its own selector (R73, R100). -/
theorem exec_seq_eq_onPhase {i : Instr} (seq : (encode i).format = .seq) (wf : i.wf = true) :
    ∃ sel f, encode i = .seq sel ∧ ∀ s, exec i s = s.onPhase sel f := by
  cases i with
  | latch p => exact ⟨_, _, rfl, fun s => rfl⟩
  | settle k => exact ⟨_, _, rfl, fun s => rfl⟩
  | strobe k => exact ⟨_, _, rfl, fun s => if_neg (bne_iff_ne.1 wf)⟩
  | strobePush => exact ⟨_, _, rfl, fun s => rfl⟩
  | _ => cases seq

theorem exec_enter_unselected {s : State} (h : s.irq = false ∨ s.pubActive = true) :
    exec .enter s = .refused .notSelected := by
  obtain h | h := h <;> simp [exec, execEnter, h]

theorem exec_take_unselected {s : State} (h : s.pubActive = false ∨ s.fifo = []) :
    exec .take s = .refused .notSelected := by
  obtain outside | empty := h
  · simp [exec, execTake, outside]
  · simp [exec, execTake, s.popWord_nil empty]

theorem exec_ret_unselected {s : State} (h : s.pubActive = false ∨ s.fifo ≠ []) :
    exec .ret s = .refused .notSelected := by
  obtain outside | queued := h
  · simp [exec, execRet, outside]
  · simp [exec, execRet, (s.pending_iff).2 queued]

/-- Settles O60: the guard of the SEQ operations, and the preconditions of the Publisher's. -/
theorem unselectedOperations : Obligations.UnselectedOperations := by
  refine fun s => ⟨fun i seq wf => ?_, rfl, exec_enter_unselected, exec_take_unselected, exec_ret_unselected⟩
  obtain ⟨sel, f, selector, guarded⟩ := exec_seq_eq_onPhase seq wf
  rw [guarded, selector]
  exact ⟨fun disabled => onPhase_disabled disabled sel f,
    fun enabled other => onPhase_unselected enabled (fun same => other (congrArg _ same.symm)) f⟩

/-! ### While disabled, and from there to ENABLE (R117, R118, R119, R207) -/

/-- Settles O25: a disabled tick presents no selector, and `EN` gates both outputs. -/
theorem disabledTickChangesNothing : Obligations.DisabledTickChangesNothing := by
  intro s d rest legal disabled listed
  exact ⟨(step_listed s _ rest legal listed).trans (runTick_disabled d _ disabled),
    by simp [State.clk, disabled], by simp [State.latch, disabled]⟩

theorem initialised_iff (s : State) :
    s.initialised = true ↔ s.irqEn = true ∧
      s.initDone = { dataBase := true, clkBase := true, period := true, program := true, cell := true } := by
  rw [State.initialised]
  rcases s.initDone with ⟨dataBase, clkBase, period, program, cell⟩
  simp [and_assoc, and_comm]

/-- Settles O26: the four preconditions of ENABLE; with `EN` set, `PHASE` 32 presents LATCH.0. -/
theorem enableSetsEn : Obligations.EnableSetsEn := by
  intro s disabled irqEn initDone pins0 pins1 pins2 at32 sr fifo latest outside
  have initialised := (initialised_iff s).2 ⟨irqEn, initDone⟩
  have distinct := (pinsDistinct_iff s).2 ⟨pins0, pins1, pins2⟩
  have clean := (s.cleanEntry_iff).2 ⟨at32, sr, fifo, latest, outside⟩
  refine ⟨s.setEn true, (execEnable_next s _).2 ⟨disabled, initialised, distinct, clean, rfl⟩, rfl, ?_, ?_, fun d => ?_⟩
  · simp [State.latch_eq, at32]
  · simp [State.clk_eq, at32]
  · simp [State.presented, at32]; rfl

theorem exec_enable_of_enabled {s : State} (enabled : s.en = true) : exec .enable s = .refused .secondEnable :=
  if_pos enabled

theorem exec_enable_of_not_initialised {s : State} (disabled : s.en = false) (early : s.initialised = false) :
    exec .enable s = .refused .enableBeforeInit := by
  simp [exec, execEnable, disabled, early]

/-- One initialisation step missing keeps the block uninitialised (R207). -/
theorem initialised_eq_false {s : State}
    (missing : s.irqEn = false ∨ s.initDone.dataBase = false ∨ s.initDone.clkBase = false ∨ s.initDone.period = false
      ∨ s.initDone.program = false ∨ s.initDone.cell = false) : s.initialised = false := by
  rw [← Bool.not_eq_true, initialised_iff]
  rintro ⟨irqEn, initDone⟩
  simp [irqEn, initDone] at missing

/-- Settles O27: the guards of ENABLE and of the initialisation steps; that `EN` stays 1 is part of O55. -/
theorem enableRefused : Obligations.EnableRefused := by
  refine fun s => ⟨exec_enable_of_enabled, fun rest legal listed => step_listed s _ rest legal listed,
    fun t enabled h => (configurationFrozen s t enabled h).1,
    fun disabled missing => exec_enable_of_not_initialised disabled (initialised_eq_false missing),
    fun a rest legal enabled listed => ?_⟩
  rw [step_listed s _ rest legal listed]
  exact if_pos enabled

/-! ### The stall (R108) -/

theorem tickEffect_of_push {s : State} (at31 : s.phase = 31) : tickEffect s = s.strobePush :=
  if_pos (by rw [at31]; rfl)

/-- A tick of the stalled block leaves it as it is (R108). -/
theorem tickEffect_of_stall {s : State} (at31 : s.phase = 31) (full : s.fifo.length = s.params.fifoDepth)
    (stall : s.params.fullPolicy = .stall) : tickEffect s = s :=
  (tickEffect_of_push at31).trans (strobePush_of_stall full stall)

/-- Settles O31: by induction on the ticks, each of them one stalled step. -/
theorem stallRepeats : Obligations.StallRepeats := by
  intro ds
  induction ds with
  | nil =>
    intro s rest _ _ _ _ listed
    obtain rfl : s.sched = rest := listed
    rfl
  | cons d ds ih =>
    intro s rest enabled at31 full stall listed
    have run : step s = .next { s with sched := ds.map Event.tick ++ rest, data := d } :=
      (step_tick s d _ enabled (by simp [at31]) listed).trans (congrArg _ (tickEffect_of_stall at31 full stall))
    rw [List.length_cons, steps, run, List.getLastD_cons]
    exact ih _ rest enabled at31 full stall rfl

/-! ### One whole cycle (R102, R109) -/

/-- A run of `n` steps and one more at its end. -/
theorem steps_snoc {n : Nat} {s t u : State} (run : steps n s = some t) (last : step t = .next u) :
    steps (n + 1) s = some u := by
  induction n generalizing s with
  | zero =>
    cases run
    simp [steps, last]
  | succ n ih =>
    rw [steps] at run ⊢
    cases first : step s with
    | next v =>
      rw [first] at run
      exact ih run
    | fault f => cases f
    | refused r => simp [first] at run

/-- `SR` after SETTLE 0 to `n - 1` of a cycle whose tick `i` sees the lines at `line i`; SETTLE `k` is tick `2 + 2k`
(R102, R104). -/
def shiftedIn (line : Nat → Sample) (sr : Word) : Nat → Word
  | 0 => sr
  | n + 1 => shiftInSample (shiftedIn line sr n) (line (2 + 2 * n))

/-- The sample of SETTLE `k` has come down two places for every later one (R104). -/
theorem shiftedIn_getLsbD (line : Nat → Sample) (sr : Word) {n k i : Nat} (fits : n ≤ 16) (taken : k < n) (bit : i < 2) :
    (shiftedIn line sr n).getLsbD (2 * (16 + k - n) + i) = (line (2 + 2 * k)).getLsbD i := by
  induction n with
  | zero => omega
  | succ n ih =>
    rw [shiftedIn, shiftInSample_getLsbD]
    by_cases last : k = n
    · obtain ⟨place, width⟩ : 2 * (16 + k - (n + 1)) + i = 30 + i ∧ 30 + i < 32 := by omega
      rw [place, if_neg (by omega), Nat.add_sub_cancel_left, decide_eq_true width, Bool.true_and, last]
    · have moved : 2 * (16 + k - (n + 1)) + i + 2 = 2 * (16 + k - n) + i := by omega
      rw [if_pos (by omega), moved, ih (by omega) (by omega)]

/-- After sixteen samples nothing is left of the earlier `SR` (R109). -/
theorem shiftedIn_sixteen (line : Nat → Sample) (sr : Word) {k : Nat} (taken : k < 16) :
    (shiftedIn line sr 16).extractLsb' (2 * k) 2 = line (2 + 2 * k) := by
  refine BitVec.eq_of_getLsbD_eq fun i bit => ?_
  have place := shiftedIn_getLsbD line sr (Nat.le_refl 16) taken bit
  rw [Nat.add_sub_cancel_left] at place
  rw [BitVec.getLsbD_extractLsb', decide_eq_true bit, Bool.true_and, place]

/-- `SR` after a tick at `PHASE` `t`: a sample enters at the even positions below 32, which are SETTLE's (R73, R104). -/
def tickSr (t : Phase) (sr : Word) (d : Sample) : Word :=
  if t.toNat < 32 ∧ t.toNat % 2 = 0 then shiftInSample sr d else sr

/-- A tick away from `PHASE` 31: `PHASE` moves on, with SETTLE's effect on `SR` (R103 to R105). -/
theorem tickEffect_of_ne {s : State} (notPush : s.phase.toNat ≠ 31) :
    tickEffect s = { s with phase := nextPhase s.phase, sr := tickSr s.phase s.sr s.data } := by
  rw [tickEffect, if_neg notPush, tickSr]
  split <;> rfl

/-- `PHASE` before tick `n` of a cycle: LATCH.0 and LATCH.1, then positions 0 to 31 (R102). -/
def cyclePhase (n : Nat) : Phase := BitVec.ofNat 6 (if n < 2 then 32 + n else n - 2)

theorem cyclePhase_toNat {n : Nat} (bound : n ≤ 33) : (cyclePhase n).toNat = if n < 2 then 32 + n else n - 2 := by
  rw [cyclePhase, BitVec.toNat_ofNat, Nat.mod_eq_of_lt]
  split <;> omega

theorem nextPhase_cyclePhase {n : Nat} (bound : n < 33) : nextPhase (cyclePhase n) = cyclePhase (n + 1) := by
  revert n; decide

/-- Tick `n` of the cycle samples the lines when it is a SETTLE: `n` = 2, 4 and so on to 32 (R102, R104). -/
theorem tickSr_cyclePhase {n : Nat} (bound : n < 33) (line : Nat → Sample) (sr : Word) :
    tickSr (cyclePhase n) (shiftedIn line sr ((n - 1) / 2)) (line n) = shiftedIn line sr (n / 2) := by
  rw [tickSr, cyclePhase_toNat (by omega)]
  by_cases settle : 2 ≤ n ∧ n % 2 = 0
  · obtain ⟨k, rfl⟩ : ∃ k, n = 2 + 2 * k := ⟨n / 2 - 1, by omega⟩
    obtain ⟨before, after⟩ : (2 + 2 * k - 1) / 2 = k ∧ (2 + 2 * k) / 2 = k + 1 := by omega
    rw [if_pos (by rw [if_neg] <;> omega), before, after, shiftedIn]
  · have same : (n - 1) / 2 = n / 2 := by omega
    rw [if_neg (by split <;> omega), same]

/-- The state before tick `n` of the cycle begun in `s`, with `data` on the data port; `(n - 1) / 2` samples have entered `SR`. -/
def cycleState (s : State) (line : Nat → Sample) (rest : List Event) (n : Nat) (data : Sample) : State :=
  { s with
    phase := cyclePhase n
    sr := shiftedIn line s.sr ((n - 1) / 2)
    data := data
    sched := (List.range' n (34 - n)).map (fun i => Event.tick (line i)) ++ rest }

section

variable {s : State} (line : Nat → Sample) (rest : List Event)

theorem cycleState_sched {n : Nat} (bound : n < 34) (data : Sample) :
    (cycleState s line rest n data).sched = .tick (line n) :: (cycleState s line rest (n + 1) data).sched := by
  obtain ⟨left, h⟩ : ∃ left, 34 - n = left + 1 ∧ 34 - (n + 1) = left := ⟨_, by omega, rfl⟩
  simp only [cycleState, h, List.range'_succ, List.map_cons, List.cons_append]

/-- A tick of the cycle before the last is LATCH, SETTLE or STROBE (R102). -/
theorem step_cycleState (enabled : s.en = true) {n : Nat} (bound : n < 33) (data : Sample) :
    step (cycleState s line rest n data) = .next (cycleState s line rest (n + 1) (line n)) := by
  have position : (cyclePhase n).toNat ≤ 33 ∧ (cyclePhase n).toNat ≠ 31 := by
    rw [cyclePhase_toNat (by omega)]
    split <;> omega
  rw [step_tick _ _ _ (by exact enabled) (by exact position.1) (cycleState_sched line rest (by omega) data),
    tickEffect_of_ne (by exact position.2)]
  simp only [cycleState, nextPhase_cyclePhase bound, tickSr_cyclePhase bound, Nat.add_sub_cancel]

/-- The last tick of the cycle is STROBE_PUSH (R107). -/
theorem step_cycleState_last (enabled : s.en = true) (room : s.fifo.length < s.params.fifoDepth) (data : Sample) :
    step (cycleState s line rest 33 data) =
      .next { s with
        phase := 32
        sr := shiftedIn line s.sr 16
        fifo := s.fifo ++ [shiftedIn line s.sr 16]
        data := line 33
        sched := rest } := by
  have at31 : cyclePhase 33 = 31 := by decide
  have legal : (cyclePhase 33).toNat ≤ 33 := by decide
  rw [step_tick _ _ rest (by exact enabled) (by exact legal) (cycleState_sched line rest (by omega) data),
    tickEffect_of_push (by exact at31), strobePush_of_room (by exact at31) (by exact room)]
  rfl

/-- The first 33 ticks of the cycle, one by one. -/
theorem steps_cycleState (enabled : s.en = true) (at32 : s.phase = 32)
    (listed : s.sched = (List.range' 0 34).map (fun i => Event.tick (line i)) ++ rest) {n : Nat} (bound : n ≤ 33) :
    ∃ data, steps n s = some (cycleState s line rest n data) := by
  induction n with
  | zero =>
    refine ⟨s.data, congrArg some ?_⟩
    have start : cyclePhase 0 = 32 := by decide
    simp only [cycleState, start, ← at32, ← listed, Nat.sub_zero]
    rfl
  | succ n ih =>
    obtain ⟨data, run⟩ := ih (by omega)
    exact ⟨line n, steps_snoc run (step_cycleState line rest enabled bound data)⟩

end

/-- Settles O30: 33 ticks of `cycleState` and the push; the word is `SR` after its sixteen samples. -/
theorem cyclePlacesSamples : Obligations.CyclePlacesSamples := by
  intro s d rest enabled at32 room listed
  have lines : cycleTicks d = (List.range' 0 34).map (fun i => Event.tick (d (Fin.ofNat 34 i))) := rfl
  rw [lines] at listed
  obtain ⟨data, run⟩ := steps_cycleState _ rest enabled at32 listed (Nat.le_refl 33)
  have cycle := steps_snoc run (step_cycleState_last _ rest enabled room data)
  rw [← at32] at cycle
  refine ⟨_, cycle, fun k => ?_⟩
  rw [shiftedIn_sixteen _ _ k.isLt]
  exact congrArg d (Fin.ext (Nat.mod_eq_of_lt (by omega)))

end Sys2Proof.Sequencer
end

section
/-! The Publisher (`43_publisher.md`): its three operations inside their preconditions, a whole invocation as a run of steps, and
the refinement, both ways, between its steps and the one-step model of R136. -/

namespace Sys2Proof.Publisher

open Sys2Proof.Machine Sys2Proof.Safety Sys2Proof.Sequencer

/-! ### Each operation inside its precondition (R131 to R134) -/

/-- Settles O35: the precondition of ENTER is `IRQ` = 1 outside an invocation. -/
theorem enterSetsPubActive : Obligations.EnterSetsPubActive := by
  intro s queued irqEn outside
  have irq := (s.irq_iff).2 ⟨queued, irqEn⟩
  exact ⟨irq, (execEnter_next s _).2 ⟨irq, outside, rfl⟩⟩

/-- The queue left by a pop is shorter than the depth its own head fitted in, so `FULL` is 0 (R23, R131). -/
theorem full_eq_false_of_pop {s t : State} {w : Word} (fifo : s.fifo = w :: t.fifo) (params : t.params = s.params)
    (fits : s.fifo.length ≤ s.params.fifoDepth) : t.full = false := by
  rw [fifo, List.length_cons] at fits
  exact decide_eq_false (by rw [params]; omega)

/-- Settles O36: the flags follow from the queue that the pop leaves. -/
theorem takePublishesHead : Obligations.TakePublishesHead := by
  intro s w rest inside fifo
  have run := (execTake_next s _).2 ⟨inside, w, rest, fifo, rfl⟩
  exact ⟨_, run, rfl, fun j low => by simp [low], State.pending_iff _, full_eq_false_of_pop fifo rfl⟩

/-- Settles O37: the precondition of RETURN is the empty queue inside an invocation. -/
theorem returnClearsPubActive : Obligations.ReturnClearsPubActive :=
  fun s inside empty => (execRet_next s _).2 ⟨inside, empty, rfl⟩

/-! ### One invocation, step by step (R130, R135) -/

section

variable {s : State} {rest : List Event} (legal : s.phase.toNat ≤ 33)
include legal

/-- A listed move of the Publisher with the request up and no invocation in progress is ENTER (R133). -/
theorem step_enter (outside : s.pubActive = false) (irqEn : s.irqEn = true) (queued : s.fifo ≠ [])
    (listed : s.sched = .publisher :: rest) : step s = .next { s with pubActive := true, sched := rest } := by
  have irq : (s.setSched rest).irq = true := (State.irq_iff _).2 ⟨queued, irqEn⟩
  rw [step_listed s _ rest legal listed, State.drive, runPublisher_eq, if_neg (by simp [outside]), if_pos irq]
  rfl

/-- A listed move of the Publisher inside an invocation with a word queued is TAKE (R131). -/
theorem step_take {w : Word} {left : List Word} (inside : s.pubActive = true) (fifo : s.fifo = w :: left)
    (listed : s.sched = .publisher :: rest) :
    step s = .next { s with fifo := left, latest := ~~~w, sched := rest } := by
  rw [step_listed s _ rest legal listed, State.drive, runPublisher_eq, if_pos (by exact inside), State.setSched_fifo, fifo]
  rfl

/-- A listed move of the Publisher inside an invocation with the queue empty is RETURN (R134). -/
theorem step_return (inside : s.pubActive = true) (empty : s.fifo = []) (listed : s.sched = .publisher :: rest) :
    step s = .next { s with pubActive := false, sched := rest } := by
  have run : runEvent .publisher (s.setSched rest) = .next (s.setSched rest).returnFromInterrupt := by
    rw [runPublisher_eq, if_pos (by exact inside), State.setSched_fifo, empty]
  exact (step_listed s _ rest legal listed).trans run

/-- Consecutive TAKEs remove a front of the queue and leave the complement of its last word: each overwrites the one before. -/
theorem steps_take {taken left : List Word} {w : Word} (inside : s.pubActive = true) (fifo : s.fifo = taken ++ w :: left)
    (listed : s.sched = List.replicate (taken.length + 1) .publisher ++ rest) :
    steps (taken.length + 1) s = some { s with fifo := left, latest := ~~~w, sched := rest } := by
  induction taken generalizing s with
  | nil =>
    rw [List.length_nil, steps, step_take (rest := rest) legal inside fifo listed]
    rfl
  | cons v taken ih =>
    rw [List.length_cons, steps, step_take legal inside fifo listed]
    exact ih legal inside rfl rfl

/-- ENTER and the TAKEs that follow it. -/
theorem steps_enter_take {taken left : List Word} {w : Word} (outside : s.pubActive = false) (irqEn : s.irqEn = true)
    (fifo : s.fifo = taken ++ w :: left) (listed : s.sched = List.replicate (taken.length + 2) .publisher ++ rest) :
    steps (taken.length + 2) s = some { s with fifo := left, latest := ~~~w, pubActive := true, sched := rest } := by
  rw [List.replicate_succ, List.cons_append] at listed
  rw [steps, step_enter legal outside irqEn (by simp [fifo]) listed]
  exact steps_take (by exact legal) rfl fifo rfl

/-- ENTER, one TAKE per word queued, and RETURN. -/
theorem steps_invocation {taken : List Word} {w : Word} (outside : s.pubActive = false) (irqEn : s.irqEn = true)
    (fifo : s.fifo = taken ++ [w]) (listed : s.sched = List.replicate (taken.length + 3) .publisher ++ rest) :
    steps (taken.length + 3) s = some { s with fifo := [], latest := ~~~w, sched := rest } := by
  rw [List.replicate_succ', List.append_assoc] at listed
  have run := steps_snoc (steps_enter_take legal outside irqEn fifo listed) (step_return legal rfl rfl rfl)
  rw [← outside] at run
  exact run

end

/-- Settles O38: the whole invocation, and its run up to the TAKE of word `j`, with the queue cut at that word. -/
theorem drainKeepsLastWord : Obligations.DrainKeepsLastWord := by
  intro ws w s rest legal outside irqEn fifo listed
  refine ⟨steps_invocation legal outside irqEn fifo listed, fun j bound => ?_⟩
  have inQueue : j < (ws ++ [w]).length := by simp; omega
  have taken : ((ws ++ [w]).take j).length = j := List.length_take_of_le (by omega)
  have cut : s.fifo = (ws ++ [w]).take j ++ (ws ++ [w])[j] :: (ws ++ [w]).drop (j + 1) := by
    rw [fifo, List.getElem_cons_drop, List.take_append_drop]
  have moves : ws.length + 3 = j + 2 + (ws.length + 1 - j) := by omega
  rw [moves, ← List.replicate_append_replicate, List.append_assoc] at listed
  have run := steps_enter_take legal outside irqEn cut (by rw [taken]; exact listed)
  rw [taken] at run
  exact ⟨_, _, run, List.getElem?_eq_getElem inQueue, rfl, rfl, rfl⟩

/-! ### The one-step model (R136) -/

/-- The one-step model's TAKE pops the head and publishes its complement, exactly when a word is queued and `IRQ_EN` = 1. -/
theorem oneStepTake_eq_some (v u : OneStepView) :
    oneStepTake v = some u ↔
      v.irqEn = true ∧ ∃ w left, v.fifo = w :: left ∧ u = { v with fifo := left, latest := ~~~w } := by
  unfold oneStepTake
  cases v.fifo with
  | nil => simp
  | cons w left => cases v.irqEn <;> simp [eq_comm]

/-- Settles O40: only TAKE shows in the view, and the invocation it belongs to was let in by `IRQ_EN`. -/
theorem publisherRefinesOneStep : Obligations.PublisherRefinesOneStep := by
  intro s t rest init listed h
  obtain ⟨legal, -⟩ := step_next s t h
  rw [step_listed s _ rest legal listed] at h
  obtain ⟨-, -, rfl⟩ | ⟨-, -, rfl⟩ | ⟨inside, w, left, fifo, rfl⟩ | ⟨-, -, rfl⟩ := runPublisher_next _ _ h
  · exact .inl rfl
  · exact .inl rfl
  · exact .inr ((oneStepTake_eq_some _ _).2 ⟨init.handler_enabled inside, w, left, fifo, rfl⟩)
  · exact .inl rfl

/-- Settles O41: TAKE at once inside an invocation, ENTER and TAKE outside one. -/
theorem oneStepRefinesPublisher : Obligations.OneStepRefinesPublisher := by
  intro s v rest legal take listed
  obtain ⟨irqEn, w, left, fifo, rfl⟩ := (oneStepTake_eq_some _ _).1 take
  cases active : s.pubActive with
  | true => exact .inl ⟨_, steps_take (taken := []) legal active fifo listed, rfl⟩
  | false => exact .inr ⟨_, steps_enter_take (taken := []) legal active irqEn fifo listed, rfl⟩

end Sys2Proof.Publisher
end

section
/-! The Accessor (`44_accessor.md`): what one READ answers, and why `LATEST` is the same at two READs with no step of the Publisher
between them. -/

namespace Sys2Proof.Accessor

open Sys2Proof.Machine Sys2Proof.Safety

/-! ### One READ (R145) -/

/-- Settles O44: the meaning of `currentState()` is the one write of `LATEST` to the port `result`. -/
theorem currentStateAnswers : Obligations.CurrentStateAnswers :=
  fun _ => rfl

/-- A listed READ is a step at every legal `PHASE`; no operand port of the request matters to it (R74, R145). -/
theorem step_read {s : State} {pad : Pad} {x : Word} {rest : List Event} (legal : s.phase.toNat ≤ 33)
    (listed : s.sched = .fn 0 pad x :: rest) : step s = .next { s with sched := rest, result := .word s.latest } := by
  have decoded : decode (.fn 0 pad x) = .ok .currentState := rfl
  rw [step_listed s _ rest legal listed, runEvent_of_presented (sel := .fn 0 pad x) rfl, runSelected_of_decode decoded]
  exact currentStateAnswers _

/-! ### Between two READs (R149) -/

/-- A tick's effect is on the block, not on the events still to come (R53). -/
theorem tickEffect_sched (s : State) : (tickEffect s).sched = s.sched := by
  obtain ⟨phase, sr, h⟩ | ⟨-, -, h⟩ := tickEffect_cases s <;> rw [h]

/-- An initialisation step writes configuration and storage only (R206). -/
theorem initEvent_sched {a : InitStep} {s t : State} (h : initEvent a s = .next t) : t.sched = s.sched := by
  obtain ⟨-, ⟨-, -, rfl⟩ | ⟨-, -, rfl⟩ | ⟨-, -, -, rfl⟩ | ⟨-, rfl⟩ | ⟨-, rfl⟩ | ⟨-, -, rfl⟩⟩ := initEvent_next a s t h <;> rfl

/-- No event touches the events still to come: only taking the next one does (R53). -/
theorem runEvent_sched {e : Event} {s t : State} (h : runEvent e s = .next t) : t.sched = s.sched := by
  rcases runEvent_next e s t h with ⟨-, -, ⟨-, rfl⟩ | ⟨-, -, rfl⟩⟩ | ⟨-, publisher⟩ | ⟨-, -, -, -, -, rfl⟩ |
    ⟨-, -, -, -, -, -, -, rfl⟩ | ⟨-, -, -, -, -, rfl⟩ | ⟨a, -, init⟩ | ⟨-, -, rfl⟩
  · rfl
  · exact tickEffect_sched s
  · rcases publisher with ⟨-, -, rfl⟩ | ⟨-, -, rfl⟩ | ⟨-, -, -, -, rfl⟩ | ⟨-, -, rfl⟩ <;> rfl
  · rfl
  · rfl
  · rfl
  · exact initEvent_sched init
  · rfl

/-- A step with events listed leaves the ones after the first (R53). -/
theorem sched_of_step {s t : State} {e : Event} {rest : List Event} (h : step s = .next t) (listed : s.sched = e :: rest) :
    t.sched = rest := by
  obtain ⟨legal, -⟩ := step_next s t h
  rw [step_listed s e rest legal listed] at h
  rw [runEvent_sched h]
  cases e <;> rfl

/-- In an enabled block only the Publisher writes `LATEST` (R45). -/
theorem latest_of_step {s t : State} (enabled : s.en = true) (other : s.nextEvent.1 ≠ .publisher) (h : step s = .next t) :
    t.latest = s.latest := by
  cases step_kind s t h with
  | tick d event enabled phase fifo latest => exact latest
  | take w event => exact absurd event other
  | environment disabled => simp [enabled] at disabled
  | quiet event phase fifo latest => exact latest

/-- The first step of a run that completes, and the run from there. -/
theorem steps_succ {n : Nat} {s t : State} (run : steps (n + 1) s = some t) : ∃ u, step s = .next u ∧ steps n u = some t := by
  rw [steps] at run
  cases first : step s with
  | next u => exact ⟨u, rfl, by simpa [first] using run⟩
  | fault f => cases f
  | refused r => simp [first] at run

/-- A READ after steps of which none is the Publisher's answers the word that `LATEST` holds before them. -/
theorem result_of_steps_read {es : List Event} {s t : State} {pad : Pad} {x : Word} {rest : List Event}
    (enabled : s.en = true) (others : ∀ e ∈ es, e ≠ .publisher) (listed : s.sched = es ++ .fn 0 pad x :: rest)
    (run : steps (es.length + 1) s = some t) : t.result = .word s.latest := by
  induction es generalizing s with
  | nil =>
    obtain ⟨u, last, run⟩ := steps_succ run
    obtain ⟨legal, -⟩ := step_next s u last
    rw [step_read legal listed] at last
    cases last
    cases run
    rfl
  | cons e es ih =>
    obtain ⟨notPublisher, others⟩ := List.forall_mem_cons.1 others
    obtain ⟨u, first, run⟩ := steps_succ run
    have other : s.nextEvent.1 ≠ .publisher := by rwa [s.nextEvent_listed e _ listed]
    rw [← latest_of_step enabled other first]
    exact ih (configurationFrozen s u enabled first).1 others (sched_of_step first listed) run

/-- Settles O45: the first READ answers at once; it is itself no step of the Publisher, so the second answers the same word. -/
theorem readsAgree : Obligations.ReadsAgree := by
  intro es s t pad pad' x x' rest enabled others listed run
  obtain ⟨u, first, -⟩ := steps_succ run
  obtain ⟨legal, -⟩ := step_next s u first
  have notPublisher : ∀ e ∈ Event.fn 0 pad x :: es, e ≠ .publisher := List.forall_mem_cons.2 ⟨by simp, others⟩
  exact ⟨⟨_, step_read legal listed, rfl⟩, result_of_steps_read enabled notPublisher listed run⟩

end Sys2Proof.Accessor
end

section
/-! The converters (`45_converters.md`): each accumulator as the OR of a list of source buttons in the order of the result's bits,
by the composition of relocations of the Bit-Position Algebra; its bits, what it depends on, and its value for a word that presses
all of the sources, none, or one alone. -/

namespace Sys2Proof.Converters

open Sys2Proof.Machine Sys2Proof.BitAlgebra

/-! ### The accumulator of a list of source buttons (R153) -/

/-- The bit of a pad's button in a RawState word (R61, R62). -/
def pressed (x : Word) (pad : Pad) (b : ButtonIndex) : Bool := x.getLsbD (2 * (buttonCode b).toNat + pad.toNat)

/-- Each source button to the bit of its place in the list. -/
def placed (sources : List ButtonIndex) : List (ButtonCode × Position) :=
  sources.mapIdx fun i b => (buttonCode b, BitVec.ofNat 5 i)

/-- The accumulator of R153: bit `i` is the bit of source `i`. -/
def orOfSources (x : Word) (pad : Pad) (sources : List ButtonIndex) : Word := orOfMoves x pad (placed sources)

/-- As the model writes it: an OR of relocations (R153). -/
theorem orOfSources_eq (x : Word) (pad : Pad) (sources : List ButtonIndex) :
    orOfSources x pad sources =
      (sources.mapIdx fun i b => relocateButton x pad b (BitVec.ofNat 5 i)).foldr (· ||| ·) 0 := by
  rw [orOfSources, orOfMoves, relocated, placed, List.mapIdx_eq_zipIdx_map, List.mapIdx_eq_zipIdx_map, List.map_map]
  rfl

theorem placed_targets (sources : List ButtonIndex) :
    (placed sources).map Prod.snd = (List.range sources.length).map (BitVec.ofNat 5) :=
  List.ext_getElem (by simp [placed]) (by simp [placed])

theorem ofNat_inj_of_lt {i j : Nat} (hi : i < 32) (hj : j < 32) (same : BitVec.ofNat 5 i = BitVec.ofNat 5 j) : i = j := by
  have := congrArg BitVec.toNat same
  rwa [BitVec.toNat_ofNat, BitVec.toNat_ofNat, Nat.mod_eq_of_lt hi, Nat.mod_eq_of_lt hj] at this

section

variable {x : Word} {pad : Pad} {sources : List ButtonIndex} (fits : sources.length ≤ 32)
include fits

theorem placed_targets_nodup : ((placed sources).map Prod.snd).Nodup := by
  rw [placed_targets]
  refine List.nodup_range.map_on fun i hi j hj => ofNat_inj_of_lt ?_ ?_
  · exact (List.mem_range.1 hi).trans_le fits
  · exact (List.mem_range.1 hj).trans_le fits

theorem placed_target_notMem {j : Nat} (below : j < 32) (past : sources.length ≤ j) :
    BitVec.ofNat 5 j ∉ (placed sources).map Prod.snd := by
  rw [placed_targets, List.mem_map]
  rintro ⟨i, hi, same⟩
  have inside : i < sources.length := List.mem_range.1 hi
  have := ofNat_inj_of_lt (inside.trans_le fits) below same
  omega

theorem orOfSources_getLsbD_of_lt {j : Nat} (inside : j < sources.length) :
    (orOfSources x pad sources).getLsbD j = pressed x pad sources[j] := by
  have mem : (buttonCode sources[j], BitVec.ofNat 5 j) ∈ placed sources := List.mem_mapIdx.2 ⟨j, inside, rfl⟩
  have bit := orOfMoves_getLsbD_target x pad (placed_targets_nodup fits) mem
  rwa [BitVec.toNat_ofNat, Nat.mod_eq_of_lt (by omega)] at bit

theorem orOfSources_getLsbD_of_ge {j : Nat} (past : sources.length ≤ j) :
    (orOfSources x pad sources).getLsbD j = false := by
  by_cases below : j < 32
  · have bit := orOfMoves_getLsbD_of_notMem x pad (placed_target_notMem fits below past)
    rwa [BitVec.toNat_ofNat, Nat.mod_eq_of_lt below] at bit
  · exact BitVec.getLsbD_of_ge _ j (by omega)

/-- The bits of the accumulator in one equation: source by source, and 0 past the last. -/
theorem orOfSources_getLsbD (j : Nat) :
    (orOfSources x pad sources).getLsbD j = sources[j]?.any (pressed x pad) := by
  by_cases inside : j < sources.length
  · rw [orOfSources_getLsbD_of_lt fits inside, List.getElem?_eq_getElem inside, Option.any_some]
  · rw [orOfSources_getLsbD_of_ge fits (by omega), List.getElem?_eq_none (by omega), Option.any_none]

theorem orOfSources_toNat_lt : (orOfSources x pad sources).toNat < 2 ^ sources.length :=
  Nat.lt_pow_two_of_testBit _ fun _ past => orOfSources_getLsbD_of_ge fits past

/-- Only the bits of the sources matter (R164). -/
theorem orOfSources_congr {y : Word} (agree : ∀ b ∈ sources, pressed x pad b = pressed y pad b) :
    orOfSources x pad sources = orOfSources y pad sources := by
  refine BitVec.eq_of_getLsbD_eq fun j _ => ?_
  by_cases inside : j < sources.length
  · rw [orOfSources_getLsbD_of_lt fits inside, orOfSources_getLsbD_of_lt fits inside, agree _ (List.getElem_mem inside)]
  · rw [orOfSources_getLsbD_of_ge fits (by omega), orOfSources_getLsbD_of_ge fits (by omega)]

/-- Sources that are all pressed, or all not, fill the accumulator's bits with 1 or with 0. -/
theorem orOfSources_of_forall {c : Bool} (all : ∀ b ∈ sources, pressed x pad b = c) :
    orOfSources x pad sources = (BitVec.fill sources.length c).setWidth 32 := by
  refine BitVec.eq_of_getLsbD_eq fun j below => ?_
  rw [BitVec.getLsbD_setWidth, BitVec.getLsbD_fill, decide_eq_true below, Bool.true_and]
  by_cases inside : j < sources.length
  · rw [orOfSources_getLsbD_of_lt fits inside, all _ (List.getElem_mem inside), decide_eq_true inside, Bool.and_true]
  · rw [orOfSources_getLsbD_of_ge fits (by omega), decide_eq_false inside, Bool.and_false]

end

section

variable {x : Word} {pad : Pad} {b : ButtonIndex} (only : ∀ b', pressed x pad b' = decide (b' = b))
include only

theorem any_pressed_of_notMem {bs : List ButtonIndex} (other : b ∉ bs) (j : Nat) : bs[j]?.any (pressed x pad) = false := by
  cases h : bs[j]? with
  | none => rfl
  | some b' =>
    have different : b' ≠ b := fun same => other (same ▸ List.mem_of_getElem? h)
    rw [Option.any_some, only, decide_eq_false different]

/-- A word that presses one button alone, a source at one place only, gives the one bit of that place. -/
theorem orOfSources_of_only {before after : List ButtonIndex} {i : Nat} (place : before.length = i)
    (fits : (before ++ b :: after).length ≤ 32) (notBefore : b ∉ before) (notAfter : b ∉ after) :
    orOfSources x pad (before ++ b :: after) = BitVec.twoPow 32 i := by
  subst place
  refine BitVec.eq_of_getLsbD_eq fun j below => ?_
  rw [orOfSources_getLsbD fits, BitVec.getLsbD_twoPow]
  rcases Nat.lt_trichotomy j before.length with left | rfl | right
  · rw [List.getElem?_append_left left, any_pressed_of_notMem only notBefore]
    simp [left.ne']
  · simp [only, below]
  · obtain ⟨k, rfl⟩ := Nat.exists_eq_add_of_lt right
    rw [List.getElem?_append_right right.le, Nat.add_assoc, Nat.add_sub_cancel_left, List.getElem?_cons_succ,
      any_pressed_of_notMem only notAfter]
    simp

end

/-! ### Which buttons a word presses -/

theorem pressed_zero (pad : Pad) (b : ButtonIndex) : pressed 0 pad b = false := BitVec.getLsbD_zero

theorem pressed_allOnes (pad : Pad) (b : ButtonIndex) : pressed 0xFFFFFFFF pad b = true := by
  have inWord := (bitPos pad (buttonCode b)).isLt
  rw [bitPos_toNat] at inWord
  exact (BitVec.getLsbD_allOnes (v := 32)).trans (decide_eq_true inWord)

theorem buttonCode_injective : Function.Injective buttonCode := by
  intro b b'
  cases b <;> cases b' <;> decide

/-- The word with the pad's bit of Up alone (R157, R160). -/
theorem pressed_upOnly (pad : Pad) (b : ButtonIndex) : pressed (1#32 <<< (8 + pad.toNat)) pad b = decide (b = .up) := by
  have word : 1#32 <<< (8 + pad.toNat) = bitMaskOf pad (buttonCode .up) := (bitMaskOf_eq pad (buttonCode .up)).symm
  rw [pressed, word, bitMaskOf_getLsbD, decide_eq_decide]
  exact ⟨fun same => buttonCode_injective (BitVec.eq_of_toNat_eq (by omega)), fun up => by rw [up]⟩

/-! ### `toSingleStick` (R154) -/

/-- The sources of bits 0 to 7 of `toSingleStick`. -/
def singleStickSources (src : SsSrc) : List ButtonIndex := [.right, .left, .down, .up] ++ src.toList

@[simp] theorem exec_toSingleStick (x : Word) (pad : Pad) (s : State) :
    exec (.toSingleStick x pad) s = .next { s with result := .byte (singleStick s.params.ssSrc x pad) } := rfl

section

variable (src : SsSrc) (x : Word) (pad : Pad)

theorem singleStick_eq : singleStick src x pad = (orOfSources x pad (singleStickSources src)).extractLsb' 0 8 := by
  simp [singleStick, orOfSources_eq, singleStickSources, SsSrc.toList, BitVec.or_assoc]

theorem singleStickSources_length : (singleStickSources src).length = 8 := rfl

theorem singleStickSources_fits : (singleStickSources src).length ≤ 32 := Nat.le_of_ble_eq_true rfl

theorem singleStick_getLsbD {j : Nat} (inByte : j < 8) :
    (singleStick src x pad).getLsbD j = (singleStickSources src)[j]?.any (pressed x pad) := by
  rw [singleStick_eq, BitVec.getLsbD_extractLsb', decide_eq_true inByte, Bool.true_and, Nat.zero_add,
    orOfSources_getLsbD (singleStickSources_fits src)]

end

/-- Settles O12: bit `j` is the bit of source `j`. -/
theorem singleStickBits : Obligations.SingleStickBits := by
  intro s x pad
  have bit {j : Nat} (inByte : j < 8) := singleStick_getLsbD s.params.ssSrc x pad inByte
  exact ⟨_, exec_toSingleStick x pad s, bit (by decide), bit (by decide), bit (by decide), bit (by decide),
    bit (by decide), bit (by decide), bit (by decide), bit (by decide)⟩

/-- With all sources pressed, or none, the byte is all 1 or all 0 (R157). -/
theorem singleStick_of_forall {src : SsSrc} {x : Word} {pad : Pad} {c : Bool}
    (all : ∀ b ∈ singleStickSources src, pressed x pad b = c) : singleStick src x pad = BitVec.fill 8 c := by
  rw [singleStick_eq, orOfSources_of_forall (singleStickSources_fits src) all, singleStickSources_length]
  cases c <;> rfl

theorem up_notMem_of_admissible {src : SsSrc} (admissible : src.admissible = true) : ButtonIndex.up ∉ src.toList := by
  intro mem
  have noDirection := List.all_eq_true.1 (Bool.and_eq_true_iff.1 admissible).2 .up mem
  simp [ButtonIndex.isDirection] at noDirection

theorem singleStick_of_upOnly {src : SsSrc} (admissible : src.admissible = true) (pad : Pad) :
    singleStick src (1#32 <<< (8 + pad.toNat)) pad = 0x08 := by
  have bit := orOfSources_of_only (pressed_upOnly pad) (before := [.right, .left, .down]) (after := src.toList)
    (i := 3) rfl (singleStickSources_fits src) (by decide) (up_notMem_of_admissible admissible)
  rw [singleStick_eq, singleStickSources]
  exact congrArg (BitVec.extractLsb' 0 8) bit

/-- Settles O18: the sources all alike, Up alone, and two opposite directions each on its own bit. -/
theorem singleStickCorners : Obligations.SingleStickCorners := by
  intro s x pad wf
  have admissible : s.params.ssSrc.admissible = true := (Bool.and_eq_true_iff.1 wf).2
  have answer {y : Word} {r : Byte} (value : singleStick s.params.ssSrc y pad = r) :
      exec (.toSingleStick y pad) s = .next { s with result := .byte r } := value ▸ exec_toSingleStick y pad s
  obtain ⟨r, next, right, left, down, up, -⟩ := singleStickBits s x pad
  exact ⟨fun clear => answer (singleStick_of_forall clear), fun set => answer (singleStick_of_forall set),
    answer (singleStick_of_forall fun b _ => pressed_zero pad b), answer (singleStick_of_forall fun b _ => pressed_allOnes pad b),
    answer (singleStick_of_upOnly admissible pad), r, next, fun hr hl => ⟨right.trans hr, left.trans hl⟩,
    fun hd hu => ⟨down.trans hd, up.trans hu⟩⟩

/-! ### Complement and mask (R159) -/

/-- Taking the complement over 8 bits gives the same byte (R159). -/
theorem complementAndMask_eq (acc : Word) : complementAndMask acc = ~~~(acc.extractLsb' 0 8) := by
  have mask : (0xFF#32).extractLsb' 0 8 = BitVec.allOnes 8 := rfl
  rw [complementAndMask, BitVec.extractLsb'_and, mask, BitVec.and_allOnes, BitVec.extractLsb'_not_of_lt]
  decide

theorem complementAndMask_getLsbD (acc : Word) {j : Nat} (inByte : j < 8) :
    (complementAndMask acc).getLsbD j = !acc.getLsbD j := by
  rw [complementAndMask_eq, BitVec.getLsbD_not, BitVec.getLsbD_extractLsb', decide_eq_true inByte, Bool.true_and,
    Bool.true_and, Nat.zero_add]

/-- On an accumulator of five bits the step is the subtraction from 0xFF (R159). -/
theorem complementAndMask_toNat {acc : Word} (fiveBits : acc.toNat < 32) :
    (complementAndMask acc).toNat = 0xFF - acc.toNat := by
  rw [complementAndMask_eq, BitVec.toNat_not, BitVec.extractLsb'_toNat, Nat.shiftRight_zero, Nat.mod_eq_of_lt (by omega)]

/-- The three bits above the accumulator's five are 1 (R159). -/
theorem not_eq_or_of_fiveBits (e : Byte) : e.toNat < 32 → ~~~e = 0xE0#8 ||| (0x1F#8 &&& ~~~e) := by
  revert e
  decide

/-! ### The complement of five sources (R159, R160, R162) -/

section

variable {x : Word} {pad : Pad} {sources : List ButtonIndex} (five : sources.length = 5)
include five

theorem complementAndMask_orOfSources_getLsbD {j : Nat} (inByte : j < 8) :
    (complementAndMask (orOfSources x pad sources)).getLsbD j = !sources[j]?.any (pressed x pad) := by
  rw [complementAndMask_getLsbD _ inByte, orOfSources_getLsbD (by omega)]

theorem complementAndMask_orOfSources_ge : 0xE0 ≤ (complementAndMask (orOfSources x pad sources)).toNat := by
  have fiveBits : (orOfSources x pad sources).toNat < 2 ^ sources.length := orOfSources_toNat_lt (by omega)
  rw [five] at fiveBits
  rw [complementAndMask_toNat fiveBits]
  omega

/-- With all five sources pressed, or none, bits 4:0 are all 0 or all 1. -/
theorem complementAndMask_orOfSources_of_forall {c : Bool} (all : ∀ b ∈ sources, pressed x pad b = c) :
    complementAndMask (orOfSources x pad sources) = 0b111#3 ++ BitVec.fill 5 !c := by
  rw [orOfSources_of_forall (by omega) all, five]
  cases c <;> rfl

end

/-! ### `toDualLeft` and `toDualRight` (R158, R161) -/

/-- The sources of bits 0 to 4 of `toDualLeft`. -/
def dualLeftSources (fire : ButtonIndex) : List ButtonIndex := [.left, .right, .down, .up, fire]

/-- The sources of bits 0 to 4 of `toDualRight`. -/
def dualRightSources (fire : ButtonIndex) : List ButtonIndex := [fire, .up, .down, .right, .left]

/-- "Mirrored" (R161, R163). -/
theorem dualLeftSources_reverse (fire : ButtonIndex) : (dualLeftSources fire).reverse = dualRightSources fire := rfl

theorem dualLeftSources_perm (fire : ButtonIndex) : (dualLeftSources fire).Perm [.right, .left, .down, .up, fire] :=
  .swap _ _ _

theorem dualRightSources_perm (fire : ButtonIndex) : (dualRightSources fire).Perm [.right, .left, .down, .up, fire] :=
  (List.reverse_perm _).trans (dualLeftSources_perm fire)

theorem dualLeftSources_fits (fire : ButtonIndex) : (dualLeftSources fire).length ≤ 32 := Nat.le_of_ble_eq_true rfl

theorem dualRightSources_fits (fire : ButtonIndex) : (dualRightSources fire).length ≤ 32 := Nat.le_of_ble_eq_true rfl

@[simp] theorem exec_toDualLeft (x : Word) (pad : Pad) (s : State) :
    exec (.toDualLeft x pad) s = .next { s with result := .byte (dualLeft s.params.fireSrc x pad) } := rfl

@[simp] theorem exec_toDualRight (x : Word) (pad : Pad) (s : State) :
    exec (.toDualRight x pad) s = .next { s with result := .byte (dualRight s.params.fireSrc x pad) } := rfl

section

variable (fire : ButtonIndex) (x : Word) (pad : Pad)

theorem dualLeft_eq : dualLeft fire x pad = complementAndMask (orOfSources x pad (dualLeftSources fire)) := by
  simp [dualLeft, orOfSources_eq, dualLeftSources, BitVec.or_assoc]

theorem dualRight_eq : dualRight fire x pad = complementAndMask (orOfSources x pad (dualRightSources fire)) := by
  simp [dualRight, orOfSources_eq, dualRightSources, BitVec.or_assoc]

theorem dualLeft_getLsbD {j : Nat} (inByte : j < 8) :
    (dualLeft fire x pad).getLsbD j = !(dualLeftSources fire)[j]?.any (pressed x pad) := by
  rw [dualLeft_eq, complementAndMask_orOfSources_getLsbD rfl inByte]

theorem dualRight_getLsbD {j : Nat} (inByte : j < 8) :
    (dualRight fire x pad).getLsbD j = !(dualRightSources fire)[j]?.any (pressed x pad) := by
  rw [dualRight_eq, complementAndMask_orOfSources_getLsbD rfl inByte]

end

/-- Settles O13: bit `j` is the complement of the bit of source `j`, and past the sources the complement of 0. -/
theorem dualLeftBits : Obligations.DualLeftBits := by
  intro s x pad
  have bit {j : Nat} (inByte : j < 8) := dualLeft_getLsbD s.params.fireSrc x pad inByte
  exact ⟨_, exec_toDualLeft x pad s, bit (by decide), bit (by decide), bit (by decide), bit (by decide), bit (by decide),
    bit (by decide), bit (by decide), bit (by decide)⟩

/-- Settles O14: as for the left result, in the order of the right one's sources. -/
theorem dualRightBits : Obligations.DualRightBits := by
  intro s x pad
  have bit {j : Nat} (inByte : j < 8) := dualRight_getLsbD s.params.fireSrc x pad inByte
  exact ⟨_, exec_toDualRight x pad s, bit (by decide), bit (by decide), bit (by decide), bit (by decide), bit (by decide),
    bit (by decide), bit (by decide), bit (by decide)⟩

/-- Settles O15: the step by its value on five bits, the range by the five sources of each result. -/
theorem dualResultsInRange : Obligations.DualResultsInRange := by
  refine ⟨fun acc fiveBits => ⟨complementAndMask_toNat fiveBits, ?_, complementAndMask_eq acc⟩, fun s x pad =>
    ⟨_, _, exec_toDualLeft x pad s, exec_toDualRight x pad s, ?_, Nat.le_of_lt_succ (BitVec.isLt _), ?_,
      Nat.le_of_lt_succ (BitVec.isLt _)⟩⟩
  · rw [complementAndMask_eq]
    refine not_eq_or_of_fiveBits _ ?_
    rw [BitVec.extractLsb'_toNat, Nat.shiftRight_zero]
    omega
  · rw [dualLeft_eq]
    exact complementAndMask_orOfSources_ge rfl
  · rw [dualRight_eq]
    exact complementAndMask_orOfSources_ge rfl

/-- Settles O16: place `j` of the reversed sources is place `4 - j`. -/
theorem dualResultsMirror : Obligations.DualResultsMirror := by
  refine fun s x pad => ⟨_, _, exec_toDualLeft x pad s, exec_toDualRight x pad s, fun j => ?_⟩
  rw [dualRight_getLsbD _ _ _ (by omega), dualLeft_getLsbD _ _ _ (by omega), ← dualLeftSources_reverse,
    List.getElem?_reverse j.isLt]
  rfl

theorem dualLeft_of_upOnly {fire : ButtonIndex} (other : fire ≠ .up) (pad : Pad) :
    dualLeft fire (1#32 <<< (8 + pad.toNat)) pad = 0xF7 := by
  have bit := orOfSources_of_only (pressed_upOnly pad) (before := [.left, .right, .down]) (after := [fire])
    (i := 3) rfl (dualLeftSources_fits fire) (by decide) (mt List.mem_singleton.1 other.symm)
  rw [dualLeft_eq]
  exact congrArg complementAndMask bit

theorem dualRight_of_upOnly {fire : ButtonIndex} (other : fire ≠ .up) (pad : Pad) :
    dualRight fire (1#32 <<< (8 + pad.toNat)) pad = 0xFD := by
  have bit := orOfSources_of_only (pressed_upOnly pad) (before := [fire]) (after := [.down, .right, .left])
    (i := 1) rfl (dualRightSources_fits fire) (mt List.mem_singleton.1 other.symm) (by decide)
  rw [dualRight_eq]
  exact congrArg complementAndMask bit

/-- The two answers to words that press all five sources, or none (R160, R162). -/
theorem exec_dual_of_forall {s : State} {x : Word} {pad : Pad} {c : Bool}
    (all : ∀ b ∈ [ButtonIndex.right, .left, .down, .up, s.params.fireSrc], pressed x pad b = c) :
    exec (.toDualLeft x pad) s = .next { s with result := .byte (0b111#3 ++ BitVec.fill 5 !c) } ∧
      exec (.toDualRight x pad) s = .next { s with result := .byte (0b111#3 ++ BitVec.fill 5 !c) } := by
  have left : ∀ b ∈ dualLeftSources s.params.fireSrc, pressed x pad b = c :=
    fun b mem => all b ((dualLeftSources_perm _).mem_iff.1 mem)
  have right : ∀ b ∈ dualRightSources s.params.fireSrc, pressed x pad b = c :=
    fun b mem => all b ((dualRightSources_perm _).mem_iff.1 mem)
  rw [exec_toDualLeft, exec_toDualRight, dualLeft_eq, dualRight_eq, complementAndMask_orOfSources_of_forall rfl left,
    complementAndMask_orOfSources_of_forall rfl right]
  exact ⟨rfl, rfl⟩

/-- Settles O19: the five sources all alike, and Up alone, at its own place on either side. -/
theorem dualCorners : Obligations.DualCorners := by
  intro s x pad
  obtain ⟨leftClear, rightClear⟩ := exec_dual_of_forall (s := s) fun b _ => pressed_zero pad b
  obtain ⟨leftSet, rightSet⟩ := exec_dual_of_forall (s := s) fun b _ => pressed_allOnes pad b
  refine ⟨leftClear, rightClear, leftSet, rightSet, fun set => exec_dual_of_forall set, fun other => ?_⟩
  rw [exec_toDualLeft, exec_toDualRight, dualLeft_of_upOnly other, dualRight_of_upOnly other]
  exact ⟨rfl, rfl⟩

/-! ### The bits that a converter reads (R164) -/

/-- Settles O17: each result is a function of its accumulator, and that of its sources' bits. -/
theorem convertersReadOwnPadOnly : Obligations.ConvertersReadOwnPadOnly := by
  refine fun s x y pad directions => ⟨fun auxiliaries => ?_, fun fire => ?_⟩
  · rw [exec_toSingleStick, exec_toSingleStick, singleStick_eq, singleStick_eq,
      orOfSources_congr (y := y) (singleStickSources_fits _)]
    exact List.forall_mem_append.2 ⟨directions, auxiliaries⟩
  · have all : ∀ b ∈ [ButtonIndex.right, .left, .down, .up] ++ [s.params.fireSrc], pressed x pad b = pressed y pad b :=
      List.forall_mem_append.2 ⟨directions, List.forall_mem_singleton.2 fire⟩
    constructor
    · rw [exec_toDualLeft, exec_toDualLeft, dualLeft_eq, dualLeft_eq, orOfSources_congr (y := y) (dualLeftSources_fits _)]
      exact fun b mem => all b ((dualLeftSources_perm _).mem_iff.1 mem)
    · rw [exec_toDualRight, exec_toDualRight, dualRight_eq, dualRight_eq, orOfSources_congr (y := y) (dualRightSources_fits _)]
      exact fun b mem => all b ((dualRightSources_perm _).mem_iff.1 mem)

end Sys2Proof.Converters
end

section
/-! Frames (`60_exceptions.md`): the state elements that each operation can change, one operation at a time. -/

namespace Sys2Proof.Frames

open Sys2Proof.Machine Sys2Proof.Safety

/-! ### The Sequencer's operations and ENABLE -/

/-- What holds of the untouched state and of the effect's state holds after a Sequencer operation (R100, R118). -/
theorem onPhase_keeps {P : State → Prop} {s t : State} {sel : Phase} {f : State → State} (h : s.onPhase sel f = .next t)
    (idle : P s) (effect : P (f s)) : P t := by
  obtain ⟨-, rfl⟩ | ⟨-, -, rfl⟩ := (s.onPhase_next t sel f).1 h
  · exact idle
  · exact effect

/-- STROBE that completes is not STROBE 15, so it is the effect guarded by its selector (R73, R105). -/
theorem execStrobe_next {k : BitVec 4} {s t : State} (h : execStrobe k s = .next t) :
    s.onPhase (phaseWord 0 k 1) State.advance = .next t := by
  unfold execStrobe at h
  split at h
  case isTrue => cases h
  case isFalse => exact h

/-- The effect of STROBE_PUSH is on `PHASE` and on the tail of the FIFO (R107, R108). -/
theorem strobePush_frame (s : State) :
    s.strobePush = { s with phase := s.strobePush.phase, fifo := s.strobePush.fifo } ∧
      (s.strobePush.fifo = s.fifo ∨ s.strobePush.fifo = s.fifo ++ [s.sr]) := by
  obtain ⟨-, push⟩ | ⟨-, -, stall⟩ | ⟨-, -, drop⟩ := s.strobePush_cases
  · rw [push]
    exact ⟨rfl, .inr rfl⟩
  · rw [stall]
    exact ⟨rfl, .inl rfl⟩
  · rw [drop]
    exact ⟨rfl, .inl rfl⟩

/-- Settles O56: each operation leaves the state untouched or with its own effect, which writes the named fields only. -/
theorem sequencerFrame : Obligations.SequencerFrame := by
  refine fun s t => ⟨fun p latch => ?_, fun k settle => ?_, fun k strobe => ?_, fun push => ?_, fun enable => ?_⟩
  · exact onPhase_keeps (P := fun u => u = { s with phase := u.phase }) latch rfl rfl
  · exact onPhase_keeps (P := fun u => u = { s with phase := u.phase, sr := u.sr }) settle rfl rfl
  · exact onPhase_keeps (P := fun u => u = { s with phase := u.phase }) (execStrobe_next strobe) rfl rfl
  · exact onPhase_keeps
      (P := fun u => u = { s with phase := u.phase, fifo := u.fifo } ∧ (u.fifo = s.fifo ∨ u.fifo = s.fifo ++ [s.sr]))
      push ⟨rfl, .inl rfl⟩ (strobePush_frame s)
  · obtain ⟨-, -, -, -, after⟩ := (execEnable_next s t).1 enable
    exact after

/-! ### The Publisher's operations -/

/-- Settles O57: the states that ENTER, RETURN and TAKE leave. -/
theorem publisherFrame : Obligations.PublisherFrame := by
  refine fun s t => ⟨fun enter => ?_, fun ret => ?_, fun take => ?_⟩
  · obtain ⟨-, -, after⟩ := (execEnter_next s t).1 enter
    exact after
  · obtain ⟨-, -, after⟩ := (execRet_next s t).1 ret
    exact after
  · obtain ⟨-, w, rest, fifo, rfl⟩ := (execTake_next s t).1 take
    exact ⟨rfl, w, fifo⟩

/-! ### A Reader's operations -/

theorem setResult_frame {s t : State} {r : FnResult} {i : Instr} (meaning : exec i s = .next (s.setResult r))
    (h : exec i s = .next t) : t = { s with result := t.result } := by
  rw [meaning] at h
  cases h
  rfl

theorem setPrimResult_frame {s t : State} {r : PrimResult} {i : Instr} (meaning : exec i s = .next (s.setPrimResult r))
    (h : exec i s = .next t) : t = { s with primResult := t.primResult } := by
  rw [meaning] at h
  cases h
  rfl

/-- Settles O58: the Accessor and the converters answer on `result`, the primitives on `prim_result`. -/
theorem readerFrame : Obligations.ReaderFrame :=
  fun _ _ => ⟨setResult_frame rfl, fun _ _ => setResult_frame rfl, fun _ _ => setResult_frame rfl,
    fun _ _ => setResult_frame rfl, fun _ _ => setPrimResult_frame rfl, fun _ _ => setPrimResult_frame rfl,
    fun _ _ _ _ => setPrimResult_frame rfl⟩

end Sys2Proof.Frames
end

section
/-! The interrupt and the refusals (`60_exceptions.md`): the request as a level, a push beside a TAKE, the masked source, and the
cause of every refused step. -/

namespace Sys2Proof.Exceptions

open Sys2Proof.Machine Sys2Proof.Safety Sys2Proof.Sequencer

/-! ### The request (R180, R182) -/

/-- Settles O39: the push writes behind the head that TAKE pops, so both orders leave the one queue. -/
theorem pushAndTakeCommute : Obligations.PushAndTakeCommute := by
  intro s enabled at31 inside queued room
  obtain ⟨w, rest, fifo⟩ := List.exists_cons_of_ne_nil queued
  have roomAfter : rest.length < s.params.fifoDepth := by
    rw [fifo, List.length_cons] at room
    omega
  have push := exec_strobePush enabled at31
  rw [strobePush_of_room at31 room, fifo] at push
  refine ⟨_, { s with fifo := rest, latest := ~~~w }, { s with fifo := rest ++ [s.sr], latest := ~~~w, phase := 32 },
    push, ?_, ?_, ?_⟩
  · exact (execTake_next _ _).2 ⟨inside, w, rest ++ [s.sr], rfl, rfl⟩
  · exact (execTake_next s _).2 ⟨inside, w, rest, fifo, rfl⟩
  · exact (exec_strobePush (by exact enabled) (by exact at31)).trans
      (congrArg _ (strobePush_of_room (by exact at31) (by exact roomAfter)))

/-- Settles O42: `IRQ_EN` is frozen in an enabled block, so the request falls only with the queue, which only TAKE shortens. -/
theorem requestIsLevel : Obligations.RequestIsLevel := by
  refine fun s t => ⟨s.irq_iff, fun enabled irq h fell => ?_⟩
  obtain ⟨queued, irqEn⟩ := (s.irq_iff).1 irq
  obtain ⟨-, sameIrqEn, -⟩ := configurationFrozen s t enabled h
  have emptied : t.fifo = [] := by
    by_contra left
    have still : t.irq = true := (t.irq_iff).2 ⟨left, sameIrqEn.trans irqEn⟩
    simp [fell] at still
  obtain ⟨fifo, -⟩ | ⟨publisher, inside, w, rest, fifo, popped, latest⟩ | ⟨-, -, -, fifo, -⟩ :=
    ownersWriteStorage s t enabled h
  · exact absurd (fifo ▸ emptied) queued
  · rw [← popped, emptied] at fifo
    exact ⟨publisher, inside, w, fifo, emptied, latest⟩
  · simp [emptied] at fifo

/-! ### The masked source (R181) -/

/-- An initialisation step lets no invocation in, and step 6 is the one that sets `IRQ_EN` (R206). -/
theorem initEvent_mask {a : InitStep} {s t : State} (h : initEvent a s = .next t) :
    t.en = s.en ∧ t.pubActive = s.pubActive ∧ (t.irqEn = s.irqEn ∨ a = .handler) := by
  obtain ⟨-, ⟨-, -, rfl⟩ | ⟨-, -, rfl⟩ | ⟨-, -, -, rfl⟩ | ⟨-, rfl⟩ | ⟨-, rfl⟩ | ⟨handler, -, rfl⟩⟩ := initEvent_next a s t h
  · exact ⟨rfl, rfl, .inl rfl⟩
  · exact ⟨rfl, rfl, .inl rfl⟩
  · exact ⟨rfl, rfl, .inl rfl⟩
  · exact ⟨rfl, rfl, .inl rfl⟩
  · exact ⟨rfl, rfl, .inl rfl⟩
  · exact ⟨rfl, rfl, .inr handler⟩

/-- With `IRQ_EN` = 0 outside an invocation the disabled block stays outside it, and stays masked but for step 6. -/
theorem step_masked {s t : State} (disabled : s.en = false) (outside : s.pubActive = false) (masked : s.irqEn = false)
    (h : step s = .next t) :
    t.pubActive = false ∧ (t.irqEn = false ∨ (s.nextEvent.1 = .init .handler ∧ t.en = false)) := by
  obtain ⟨-, run⟩ := step_next s t h
  obtain ⟨sched, draws, data, met⟩ := s.met_eq
  rw [met] at run
  rcases runEvent_next _ _ _ run with ⟨d, -, ⟨-, rfl⟩ | ⟨enabled, -⟩⟩ | ⟨-, publisher⟩ | ⟨-, -, -, -, -, rfl⟩ |
    ⟨-, -, -, -, -, -, -, rfl⟩ | ⟨-, -, -, -, -, rfl⟩ | ⟨a, event, init⟩ | ⟨-, -, rfl⟩
  · exact ⟨outside, .inl masked⟩
  · simp [disabled] at enabled
  · rcases publisher with ⟨-, -, rfl⟩ | ⟨-, irq, -⟩ | ⟨inside, -⟩ | ⟨inside, -⟩
    · exact ⟨outside, .inl masked⟩
    · simp [State.irq_iff, masked] at irq
    · simp [outside] at inside
    · simp [outside] at inside
  · exact ⟨outside, .inl masked⟩
  · exact ⟨outside, .inl masked⟩
  · exact ⟨outside, .inl masked⟩
  · obtain ⟨en, pubActive, irqEn | rfl⟩ := initEvent_mask init
    · exact ⟨pubActive.trans outside, .inl (irqEn.trans masked)⟩
    · exact ⟨pubActive.trans outside, .inr ⟨event, en.trans disabled⟩⟩
  · exact ⟨rfl, .inl rfl⟩

/-- A step of a disabled block leaves a clean storage clean (R34). -/
theorem clean_of_step {s t : State} (disabled : s.en = false) (clean : Clean s) (h : step s = .next t) : Clean t := by
  obtain ⟨phase, fifo, latest⟩ := clean
  cases step_kind s t h with
  | tick d event enabled => simp [disabled] at enabled
  | take w event _ taken => simp [fifo] at taken
  | environment _ _ keeps => exact keeps ⟨phase, fifo, latest⟩
  | quiet event samePhase sameFifo sameLatest => exact ⟨samePhase.trans phase, sameFifo.trans fifo, sameLatest.trans latest⟩

/-- Settles O43: under the invariants a masked block is disabled, outside an invocation and clean, and a step leaves it so. -/
theorem maskedPublisherIdle : Obligations.MaskedPublisherIdle := by
  intro s t legal init masked h
  have disabled : s.en = false := by
    by_contra enabled
    obtain ⟨initialised, -⟩ := init.enabled_ready (by simpa using enabled)
    simp [State.initialised, masked] at initialised
  have outside : s.pubActive = false := by
    by_contra inside
    simp [init.handler_enabled (by simpa using inside)] at masked
  obtain ⟨pubActive, irqEn⟩ := step_masked disabled outside masked h
  obtain ⟨-, fifo, latest⟩ := clean_of_step disabled (legal.disabled_clean disabled) h
  refine ⟨pubActive, fifo, latest, fun set => ?_⟩
  obtain still | ⟨handler, en⟩ := irqEn
  · simp [set] at still
  · exact ⟨handler, disabled, en⟩

/-! ### The cause of a refusal (R178) -/

/-- ENABLE's guards, in their order (R119, R207, R50, R117). -/
theorem execEnable_refused {s : State} {r : Refusal} (h : execEnable s = .refused r) : RefusalCause r (.ctrl 1) s := by
  unfold execEnable at h
  cases en : s.en with
  | true =>
    obtain rfl : .secondEnable = r := by simpa [en] using h
    exact ⟨rfl, en⟩
  | false =>
    rw [en, if_neg Bool.false_ne_true] at h
    split at h
    case isTrue early =>
      cases h
      exact ⟨rfl, en, by simpa using early⟩
    split at h
    case isTrue overlap =>
      cases h
      exact ⟨rfl, en, by simpa using overlap⟩
    split at h
    case isTrue dirty =>
      cases h
      exact ⟨rfl, en, by simpa using dirty⟩
    case isFalse => cases h

/-- The guards of the initialisation steps: `EN` for all, positivity for step 3 and step 5 before step 6 (R206, R207). -/
theorem initEvent_refused {a : InitStep} {s : State} {r : Refusal} (h : initEvent a s = .refused r) :
    RefusalCause r (.init a) s := by
  unfold initEvent at h
  cases en : s.en with
  | true =>
    obtain rfl : .configWhileEnabled = r := by simpa [en] using h
    exact ⟨⟨a, rfl⟩, en⟩
  | false =>
    rw [en, if_neg Bool.false_ne_true] at h
    cases a with
    | period p =>
      cases positive : periodPositive p with
      | true => simp [positive] at h
      | false =>
        obtain rfl : .periodNotPositive = r := by simpa [positive] using h
        exact ⟨⟨p, rfl, positive⟩, en⟩
    | handler =>
      cases cell : s.initDone.cell with
      | true => simp [cell] at h
      | false =>
        obtain rfl : .handlerBeforeCell = r := by simpa [cell] using h
        exact ⟨rfl, en, cell⟩
    | dataBase | clkBase | program | cell => cases h

theorem resetEvent_refused {s : State} {r : Refusal} (h : resetEvent s = .refused r) : RefusalCause r .rst s := by
  unfold resetEvent at h
  split at h
  case isTrue en =>
    cases h
    exact ⟨rfl, en⟩
  case isFalse => cases h

/-- The Publisher's move presents a selector only where the operation it selects is enabled (R75, R130). -/
theorem runPublisher_completes (s : State) : ∃ t, runEvent .publisher s = .next t := by
  rw [runPublisher_eq]
  split
  case isTrue => split <;> exact ⟨_, rfl⟩
  case isFalse => split <;> exact ⟨_, rfl⟩

/-- A tick at a legal `PHASE` completes (R100, R118). -/
theorem runTick_completes (d : Sample) {s : State} (legal : s.phase.toNat ≤ 33) : ∃ t, runEvent (.tick d) s = .next t := by
  cases en : s.en with
  | true => exact ⟨_, runTick_enabled d s en legal⟩
  | false => exact ⟨_, runTick_disabled d s en⟩

/-- An event refused at a legal `PHASE` is the Environment's or the reserved primitive, for its own reason. -/
theorem runEvent_refused {e : Event} {s : State} {r : Refusal} (legal : s.phase.toNat ≤ 33)
    (h : runEvent e s = .refused r) : RefusalCause r e s := by
  cases e with
  | tick d =>
    obtain ⟨t, run⟩ := runTick_completes d legal
    simp [run] at h
  | publisher =>
    obtain ⟨t, run⟩ := runPublisher_completes s
    simp [run] at h
  | fn sel pad x =>
    obtain ⟨answer, run⟩ := runFn_next sel pad x s
    simp [run] at h
  | prim sel pad button target x =>
    obtain ⟨rfl, run⟩ | ⟨answer, run⟩ := runPrim_cases sel pad button target x s
    · rw [run] at h
      cases h
      exact ⟨pad, button, target, x, rfl⟩
    · simp [run] at h
  | ctrl b =>
    obtain ⟨rfl, run⟩ | ⟨rfl, run⟩ := runCtrl_cases b s
    · exact execEnable_refused (run ▸ h)
    · rw [run] at h
      cases h
      exact rfl
  | init a => exact initEvent_refused h
  | rst => exact resetEvent_refused h

/-- Settles O59: a reserved `PHASE` refuses every step and a legal one leaves it to the event; there is no fault to end in. -/
theorem refusalsHaveCause : Obligations.RefusalsHaveCause := by
  refine fun s => ⟨fun r h => ?_, nofun⟩
  by_cases legal : s.phase.toNat ≤ 33
  · rw [step_eq s legal] at h
    obtain ⟨sched, draws, data, met⟩ := s.met_eq
    rw [met] at h
    have cause := runEvent_refused (by exact legal) h
    exact cause
  · rw [step_reserved s (by omega)] at h
    cases h
    exact Nat.lt_of_not_le legal

end Sys2Proof.Exceptions
end

section
/-! Reset and initialisation (`70_reset_and_hazards.md`): the reset event, the seven steps of R206 one by one and in their order,
and what initialisation leaves for good. -/

namespace Sys2Proof.Safety

open Sys2Proof.Machine Sys2Proof.Sequencer Sys2Proof.Exceptions

/-! ### The reset event (R200) -/

/-- Settles O48: the listed event is `resetEvent`, which `EN` gates. -/
theorem resetEventRestores : Obligations.ResetEventRestores := by
  intro s rest legal listed
  rw [step_listed s _ rest legal listed]
  exact ⟨fun enabled => if_pos enabled, fun disabled =>
    ⟨_, (resetEvent_next _ _).2 ⟨disabled, rfl⟩, rfl, rfl, rfl, rfl, rfl, rfl, rfl, rfl, rfl, rfl⟩⟩

/-! ### What initialisation leaves for good (R206, R207, R50) -/

/-- The invariant reads what only the Environment writes, and `PUB_ACTIVE`, which may fall (R185). -/
theorem Initialised.of_sameSetup {s t : State} (init : Initialised s) (same : SameSetup s t)
    (pubActive : t.pubActive = true → s.pubActive = true) : Initialised t := by
  obtain ⟨handler, ready⟩ := init
  refine ⟨fun inside => same.irqEn.trans (handler (pubActive inside)), fun enabled => ?_⟩
  have initialised : t.initialised = s.initialised := by
    rw [State.initialised, State.initialised, same.initDone, same.irqEn]
  have distinct : t.pinsDistinct = s.pinsDistinct := by rw [State.pinsDistinct, State.pinsDistinct, same.config]
  rw [initialised, distinct]
  exact ready (same.en ▸ enabled)

theorem Initialised.of_disabled {s : State} (disabled : s.en = false) (handler : s.pubActive = true → s.irqEn = true) :
    Initialised s :=
  ⟨handler, by simp [disabled]⟩

/-- Step 6 sets `IRQ_EN` (R206). -/
theorem irqEn_of_initHandler {s t : State} (h : initEvent .handler s = .next t) : t.irqEn = true := by
  have left := initEvent_next .handler s t h
  simp only [reduceCtorEq, false_and, exists_false, true_and, false_or] at left
  obtain ⟨-, -, rfl⟩ := left
  rfl

theorem Initialised.of_initEvent {a : InitStep} {s t : State} (init : Initialised s) (h : initEvent a s = .next t) :
    Initialised t := by
  obtain ⟨disabled, -⟩ := initEvent_next a s t h
  obtain ⟨en, pubActive, irqEn | rfl⟩ := initEvent_mask h
  · exact .of_disabled (en.trans disabled) fun inside => irqEn.trans (init.handler_enabled (pubActive ▸ inside))
  · exact .of_disabled (en.trans disabled) fun _ => irqEn_of_initHandler h

/-- A tick writes neither the setup nor `PUB_ACTIVE` (R102). -/
theorem Initialised.of_tick {s : State} (init : Initialised s) : Initialised (tickEffect s) := by
  obtain ⟨-, same⟩ := tickEffect_frame s
  refine init.of_sameSetup same ?_
  rcases tickEffect_cases s with ⟨_, _, tick⟩ | ⟨-, -, tick⟩ <;> rw [tick] <;> exact id

/-- Every event keeps the invariant: ENTER needs `IRQ_EN`, and ENABLE checks what an enabled block keeps (R133, R117). -/
theorem Initialised.of_runEvent {e : Event} {s t : State} (init : Initialised s) (h : runEvent e s = .next t) :
    Initialised t := by
  rcases runEvent_next e s t h with ⟨d, -, ⟨-, rfl⟩ | ⟨-, -, rfl⟩⟩ | ⟨-, publisher⟩ | ⟨-, -, -, -, -, rfl⟩ |
    ⟨-, -, -, -, -, -, -, rfl⟩ | ⟨-, -, initialised, distinct, -, rfl⟩ | ⟨a, -, initStep⟩ | ⟨-, -, rfl⟩
  · exact init
  · exact init.of_tick
  · rcases publisher with ⟨-, -, rfl⟩ | ⟨-, irq, rfl⟩ | ⟨-, w, left, -, rfl⟩ | ⟨-, -, rfl⟩
    · exact init
    · exact ⟨fun _ => ((State.irq_iff _).1 irq).2, init.enabled_ready⟩
    · exact init.of_sameSetup ⟨rfl, rfl, rfl, rfl, rfl⟩ id
    · exact init.of_sameSetup ⟨rfl, rfl, rfl, rfl, rfl⟩ nofun
  · exact init.of_sameSetup ⟨rfl, rfl, rfl, rfl, rfl⟩ id
  · exact init.of_sameSetup ⟨rfl, rfl, rfl, rfl, rfl⟩ id
  · exact ⟨init.handler_enabled, fun _ => ⟨initialised, distinct⟩⟩
  · exact init.of_initEvent initStep
  · exact .of_disabled rfl nofun

/-- Settles O52: taking the event off the schedule touches nothing the invariant reads, and running it keeps the invariant. -/
theorem stepKeepsInitialised : Obligations.StepKeepsInitialised := by
  intro s t init h
  obtain ⟨-, run⟩ := step_next s t h
  obtain ⟨sched, draws, data, met⟩ := s.met_eq
  rw [met] at run
  refine Initialised.of_runEvent ?_ run
  exact init.of_sameSetup ⟨rfl, rfl, rfl, rfl, rfl⟩ id

/-! ### The steps of R206, each by itself -/

section

variable {s : State} {rest : List Event} (legal : s.phase.toNat ≤ 33) (disabled : s.en = false)
include legal

theorem step_init {a : InitStep} (listed : s.sched = .init a :: rest) : step s = initEvent a (s.setSched rest) :=
  step_listed s _ rest legal listed

/-- A listed write of 1 to `CTRL.EN` is ENABLE (R75, R117). -/
theorem step_enable (listed : s.sched = .ctrl 1 :: rest) : step s = exec .enable (s.setSched rest) :=
  step_listed s _ rest legal listed

include disabled

theorem step_dataBase {pin : Nat} (listed : s.sched = .init (.dataBase pin) :: rest) :
    step s = .next { s with
      config := { s.config with dataBase := pin }, initDone := { s.initDone with dataBase := true }, sched := rest } :=
  (step_init legal listed).trans (if_neg (by simp [disabled]))

theorem step_clkBase {pin : Nat} (listed : s.sched = .init (.clkBase pin) :: rest) :
    step s = .next { s with
      config := { s.config with clkBase := pin }, initDone := { s.initDone with clkBase := true }, sched := rest } :=
  (step_init legal listed).trans (if_neg (by simp [disabled]))

theorem step_period {p : Period} (positive : periodPositive p = true) (listed : s.sched = .init (.period p) :: rest) :
    step s = .next { s with
      config := { s.config with period := p }, initDone := { s.initDone with period := true }, sched := rest } :=
  (step_init legal listed).trans ((if_neg (by simp [disabled])).trans (if_pos positive))

theorem step_period_refused {p : Period} (zero : periodPositive p = false) (listed : s.sched = .init (.period p) :: rest) :
    step s = .refused .periodNotPositive :=
  (step_init legal listed).trans ((if_neg (by simp [disabled])).trans (if_neg (by simp [zero])))

theorem step_program (listed : s.sched = .init .program :: rest) :
    step s = .next { s with
      phase := 32, sr := 0, fifo := [], initDone := { s.initDone with program := true }, sched := rest } :=
  (step_init legal listed).trans (if_neg (by simp [disabled]))

theorem step_cell (listed : s.sched = .init .cell :: rest) :
    step s = .next { s with latest := 0, initDone := { s.initDone with cell := true }, sched := rest } :=
  (step_init legal listed).trans (if_neg (by simp [disabled]))

theorem step_handler (cell : s.initDone.cell = true) (listed : s.sched = .init .handler :: rest) :
    step s = .next { s with irqEn := true, sched := rest } :=
  (step_init legal listed).trans ((if_neg (by simp [disabled])).trans (if_pos cell))

theorem step_handler_refused (early : s.initDone.cell = false) (listed : s.sched = .init .handler :: rest) :
    step s = .refused .handlerBeforeCell :=
  (step_init legal listed).trans ((if_neg (by simp [disabled])).trans (if_neg (by simp [early])))

end

/-- Before step 2 nothing contests the two pins of step 1 (R30; log 12). -/
theorem pinRole_dataBase_of_clkBase_open {s : State} (done : s.initDone.dataBase = true) (early : s.initDone.clkBase = false) :
    s.pinRole s.config.dataBase = .dataLine 0 ∧ s.pinRole (s.config.dataBase + 1) = .dataLine 1 := by
  simp [State.pinRole, done, early]

/-- A disabled block drives both outputs low (R17, R18, R31). -/
theorem pinRole_clkBase_of_disabled {s : State} (done : s.initDone.clkBase = true) (disabled : s.en = false) :
    s.pinRole s.config.clkBase = .driven false ∧ s.pinRole (s.config.clkBase + 1) = .driven false := by
  have roles := pinRole_clkBase s done
  rwa [s.clk_eq, s.latch_eq, disabled] at roles

/-! ### The steps of R206 in their order -/

/-- The reset state after steps 1 to 6 (R206). -/
def initialisedReset (params : Params) (db cb : Nat) (p : Period) (sched : List Event) : State :=
  { State.resetWith params with
    irqEn := true
    config := { dataBase := db, clkBase := cb, period := p }
    initDone := { dataBase := true, clkBase := true, period := true, program := true, cell := true }
    sched := sched }

theorem steps_of_step {n : Nat} {s t : State} (first : step s = .next t) : steps (n + 1) s = steps n t := by
  rw [steps, first]

theorem steps_initialisation (params : Params) (db cb : Nat) {p : Period} (rest : List Event)
    (positive : periodPositive p = true) :
    steps 6 { State.resetWith params with
        sched := [.init (.dataBase db), .init (.clkBase cb), .init (.period p), .init .program, .init .cell,
          .init .handler] ++ rest }
      = some (initialisedReset params db cb p rest) := by
  have legal : (32#6).toNat ≤ 33 := by decide
  calc
    _ = _ := steps_of_step (step_dataBase legal rfl rfl)
    _ = _ := steps_of_step (step_clkBase legal rfl rfl)
    _ = _ := steps_of_step (step_period legal rfl positive rfl)
    _ = _ := steps_of_step (step_program legal rfl rfl)
    _ = _ := steps_of_step (step_cell legal rfl rfl)
    _ = _ := steps_of_step (step_handler legal rfl rfl rfl)

theorem exec_enable_of_overlap {s : State} (disabled : s.en = false) (initialised : s.initialised = true)
    (overlap : s.pinsDistinct = false) : exec .enable s = .refused .pinsNotDistinct := by
  simp [exec, execEnable, disabled, initialised, overlap]

theorem step_enable_initialisedReset (params : Params) {db cb : Nat} (p : Period) (rest : List Event)
    (distinct : db ≠ cb ∧ db + 1 ≠ cb ∧ db ≠ cb + 1) :
    step (initialisedReset params db cb p (.ctrl 1 :: rest))
      = .next { initialisedReset params db cb p rest with en := true } := by
  rw [step_enable (by exact (by decide : (32#6).toNat ≤ 33)) rfl]
  exact (execEnable_next _ _).2 ⟨rfl, rfl, (pinsDistinct_iff _).2 distinct, rfl, rfl⟩

theorem step_enable_initialisedReset_of_overlap (params : Params) {db cb : Nat} (p : Period) (rest : List Event)
    (overlap : db = cb ∨ db + 1 = cb ∨ db = cb + 1) :
    step (initialisedReset params db cb p (.ctrl 1 :: rest)) = .refused .pinsNotDistinct := by
  rw [step_enable (by exact (by decide : (32#6).toNat ≤ 33)) rfl]
  refine exec_enable_of_overlap rfl rfl (Bool.eq_false_iff.2 fun distinct => ?_)
  have apart : db ≠ cb ∧ db + 1 ≠ cb ∧ db ≠ cb + 1 := (pinsDistinct_iff _).1 distinct
  omega

theorem periodPositive_iff (p : Period) : periodPositive p = true ↔ 0 < p.num ∧ 0 < p.den := by
  simp [periodPositive]

/-- Settles O49: the steps in order end in `initialisedReset`, where ENABLE looks at the pins, and the steps one by one. -/
theorem initialisationEnables : Obligations.InitialisationEnables := by
  refine ⟨?_, ?_⟩
  · rintro params db cb p rest s num den rfl
    have six := steps_initialisation params db cb (.ctrl 1 :: rest) ((periodPositive_iff p).2 ⟨num, den⟩)
    exact ⟨fun distinct => steps_snoc six (step_enable_initialisedReset params p rest distinct),
      fun overlap => ⟨_, six, step_enable_initialisedReset_of_overlap params p rest overlap⟩⟩
  · intro s a rest legal disabled listed
    refine ⟨?_, ?_, ?_, ?_, ?_, ?_, ?_, ?_⟩
    · rintro pin rfl
      refine ⟨_, step_dataBase legal disabled listed, rfl, ?_⟩
      rintro (early | distinct)
      · exact pinRole_dataBase_of_clkBase_open rfl early
      · exact pinRole_dataBase _ rfl distinct
    · rintro pin rfl
      exact ⟨_, step_clkBase legal disabled listed, rfl, pinRole_clkBase_of_disabled rfl disabled⟩
    · rintro p rfl num den
      exact step_period legal disabled ((periodPositive_iff p).2 ⟨num, den⟩) listed
    · rintro p rfl zero
      refine step_period_refused legal disabled (Bool.eq_false_iff.2 fun positive => ?_) listed
      have := (periodPositive_iff p).1 positive
      omega
    · rintro rfl
      exact step_program legal disabled listed
    · rintro rfl
      exact step_cell legal disabled listed
    · rintro rfl cell
      exact step_handler legal disabled cell listed
    · rintro rfl early
      exact step_handler_refused legal disabled early listed

end Sys2Proof.Safety
end

section
/-! The premises of R214 (`70_reset_and_hazards.md`): what the lines alone give of a cycle's word, and one cycle against the
reference controllers, whose counter keeps step with the samples. -/

namespace Sys2Proof.ReferenceControllers

open Sys2Proof.Machine Sys2Proof.Safety Sys2Proof.Sequencer Sys2Proof.Publisher

/-! ### The premises on the lines alone -/

/-- A bit of a sample, at its place in the word (R61). -/
theorem getLsbD_of_extractLsb' {w : Word} {k i : Nat} {x : Sample} (sample : w.extractLsb' (2 * k) 2 = x) (bit : i < 2) :
    w.getLsbD (2 * k + i) = x.getLsbD i := by
  rw [← sample, BitVec.getLsbD_extractLsb', decide_eq_true bit, Bool.true_and]

/-- A line that reads 1 at SETTLE `k` leaves a 0 in the published word (R66). -/
theorem getLsbD_not_of_high {w : Word} {k i : Nat} {x : Sample} (sample : w.extractLsb' (2 * k) 2 = x) (bit : i < 2)
    (high : x.getLsbD i = true) : (~~~w).getLsbD (2 * k + i) = false := by
  rw [BitVec.getLsbD_not, getLsbD_of_extractLsb' sample bit, high, Bool.not_true, Bool.and_false]

/-- Both lines high at SETTLE 12 to 15 leave bits 31:24 of the published word 0 (R65). -/
theorem extractLsb'_not_of_idle {w : Word} (idle : ∀ k : Fin 4, w.extractLsb' (2 * (12 + k.val)) 2 = 3) :
    (~~~w).extractLsb' 24 8 = 0 := by
  refine BitVec.eq_of_getLsbD_eq fun j low => ?_
  have bit : j % 2 < 2 := Nat.mod_lt j (by decide)
  have high : (3#2).getLsbD (j % 2) = true := by
    generalize j % 2 = i at bit
    revert i; decide
  have zero := getLsbD_not_of_high (idle ⟨j / 2, by omega⟩) bit high
  rw [show 2 * (12 + j / 2) + j % 2 = 24 + j by omega] at zero
  rw [BitVec.getLsbD_extractLsb', zero, Bool.and_false]
  exact BitVec.getLsbD_zero.symm

/-- Settles O34: each premise fixes samples, and O30 places them in the word. -/
theorem premisesOnLines : Obligations.PremisesOnLines := by
  intro s d rest enabled at32 room listed
  obtain ⟨w, run, samples⟩ := cyclePlacesSamples s d rest enabled at32 room listed
  refine ⟨_, w, run, rfl, fun presented settled k => (samples k).trans (settled k), fun idle => ?_, fun p high k => ?_⟩
  · exact extractLsb'_not_of_idle fun k => (samples ⟨12 + k.val, by omega⟩).trans (idle k)
  · exact getLsbD_not_of_high (samples k) p.isLt (high k)

/-! ### A reference controller through one cycle -/

/-- A controller before tick `n` of the cycle: `LATCH` falls at tick 1, and the tick of every SETTLE
raises `CLK` (R214). -/
def inCycle (c : Controller) (n : Nat) : Controller :=
  { c with
    captured := if n < 2 then c.captured else c.buttons
    count := if n = 0 then c.count else (n - 1) / 2 }

/-- What a controller puts into the published word at SETTLE `k` of a cycle: its button, and past its width the complement of
`FILL` (R66, R214). -/
def contribution (c : Controller) (k : Nat) : Bool := if k < c.width then c.buttons.getLsbD k else !c.fill.getLsbD k

theorem latch_inCycle {s : State} {n : Nat} (bound : n ≤ 33) (enabled : s.en = true) (position : s.phase = cyclePhase n) :
    s.latch = decide (n < 2) := by
  rw [s.latch_eq, enabled, position, cyclePhase_toNat bound, Bool.true_and, decide_eq_decide]
  split <;> omega

theorem clk_inCycle {s : State} {n : Nat} (bound : n ≤ 33) (enabled : s.en = true) (position : s.phase = cyclePhase n) :
    s.clk = decide (2 ≤ n ∧ n % 2 = 1) := by
  rw [s.clk_eq, enabled, position, cyclePhase_toNat bound, Bool.true_and, ← Bool.decide_and, decide_eq_decide]
  split <;> omega

/-- A tick before the last takes a controller to its place before the next one (R214). -/
theorem observe_inCycle (c : Controller) {s t : State} {n : Nat} (bound : n < 33) (enabled : s.en = true)
    (enabled' : t.en = true) (position : s.phase = cyclePhase n) (position' : t.phase = cyclePhase (n + 1)) :
    (inCycle c n).observe s t = inCycle c (n + 1) := by
  simp only [Controller.observe, inCycle, latch_inCycle (by omega) enabled position,
    latch_inCycle (by omega) enabled' position', clk_inCycle (by omega) enabled position,
    clk_inCycle (by omega) enabled' position', Controller.mk.injEq, true_and, and_true]
  obtain rfl | rfl | past : n = 0 ∨ n = 1 ∨ 2 ≤ n := by omega
  · simp
  · simp
  · obtain ⟨low, start⟩ : ¬ n < 2 ∧ n ≠ 0 := by omega
    obtain ⟨even, half⟩ | ⟨odd, half⟩ : ((n % 2 ≠ 1 ∧ (n + 1) % 2 = 1) ∧ (n - 1) / 2 + 1 = n / 2) ∨
        (n % 2 = 1 ∧ (n - 1) / 2 = n / 2) := by omega
    · simp [low, start, even, half, Nat.one_le_iff_ne_zero]
    · simp [low, start, past, odd, half]

/-- At SETTLE `k` the counter is `k`, so the line is the complement of the controller's contribution (R214). -/
theorem line_inCycle (c : Controller) (k : Nat) : (inCycle c (2 + 2 * k)).line = !contribution c k := by
  have count : (2 + 2 * k - 1) / 2 = k := by omega
  simp only [Controller.line, inCycle, contribution, count, if_neg (by omega : ¬ 2 + 2 * k = 0),
    if_neg (by omega : ¬ 2 + 2 * k < 2)]
  split <;> simp

/-! ### The block in the closed loop -/

/-- A tick of an enabled block at a legal `PHASE` in the closed loop (R19, R102). -/
theorem tick_eq {x : ClosedLoop} {t : State} (enabled : x.block.en = true) (legal : x.block.phase.toNat ≤ 33)
    (effect : tickEffect { x.block with data := x.data } = t) :
    x.tick = some { block := t, pad0 := x.pad0.observe x.block t, pad1 := x.pad1.observe x.block t } := by
  have run := step_tick (x.block.setSched (.tick x.data :: x.block.sched)) x.data x.block.sched enabled legal rfl
  rw [ClosedLoop.tick, run, ← effect]
  rfl

/-- A run of `n` ticks and one more at its end. -/
theorem ticks_snoc {n : Nat} {x y z : ClosedLoop} (run : ClosedLoop.ticks n x = some y) (last : y.tick = some z) :
    ClosedLoop.ticks (n + 1) x = some z := by
  induction n generalizing x with
  | zero =>
    cases run
    simp [ClosedLoop.ticks, last]
  | succ n ih =>
    rw [ClosedLoop.ticks] at run ⊢
    cases first : x.tick with
    | some v =>
      rw [first] at run
      exact ih run
    | none => simp [first] at run

/-- The lines at tick `n` of the cycle begun in `x`. -/
def lineAt (x : ClosedLoop) (n : Nat) : Sample :=
  BitVec.ofBool (inCycle x.pad1 n).line ++ BitVec.ofBool (inCycle x.pad0 n).line

/-- The closed loop before tick `n` of the cycle begun in `x`, with `data` on the data port. -/
def loopAt (x : ClosedLoop) (n : Nat) (data : Sample) : ClosedLoop where
  block := { x.block with phase := cyclePhase n, sr := shiftedIn (lineAt x) x.block.sr ((n - 1) / 2), data := data }
  pad0 := inCycle x.pad0 n
  pad1 := inCycle x.pad1 n

theorem cyclePhase_legal {n : Nat} (bound : n ≤ 33) : (cyclePhase n).toNat ≤ 33 := by
  rw [cyclePhase_toNat bound]
  split <;> omega

section

variable {x : ClosedLoop} (enabled : x.block.en = true)
include enabled

/-- A tick of the cycle before the last. -/
theorem tick_loopAt {n : Nat} (bound : n < 33) (data : Sample) :
    (loopAt x n data).tick = some (loopAt x (n + 1) (lineAt x n)) := by
  have notPush : (cyclePhase n).toNat ≠ 31 := by
    rw [cyclePhase_toNat (by omega)]
    split <;> omega
  have effect : tickEffect { (loopAt x n data).block with data := (loopAt x n data).data }
      = (loopAt x (n + 1) (lineAt x n)).block := by
    rw [tickEffect_of_ne (by exact notPush)]
    simp only [loopAt, ClosedLoop.data, nextPhase_cyclePhase bound]
    rw [← lineAt, tickSr_cyclePhase bound, Nat.add_sub_cancel]
  have pad (c : Controller) := observe_inCycle c (s := (loopAt x n data).block)
    (t := (loopAt x (n + 1) (lineAt x n)).block) bound enabled enabled rfl rfl
  rw [tick_eq (by exact enabled) (by exact cyclePhase_legal (by omega)) effect]
  exact congrArg some ((ClosedLoop.mk.injEq ..).mpr ⟨rfl, pad x.pad0, pad x.pad1⟩)

/-- The first 33 ticks of the cycle. -/
theorem ticks_loopAt (at32 : x.block.phase = 32) {n : Nat} (bound : n ≤ 33) :
    ∃ data, ClosedLoop.ticks n x = some (loopAt x n data) := by
  induction n with
  | zero =>
    refine ⟨x.block.data, congrArg some ?_⟩
    have start : cyclePhase 0 = 32 := by decide
    simp only [loopAt, start, ← at32]
    rfl
  | succ n ih =>
    obtain ⟨data, run⟩ := ih (by omega)
    exact ⟨lineAt x n, ticks_snoc run (tick_loopAt enabled bound data)⟩

/-- One cycle in the closed loop: a word is pushed, and nothing else of the block but `SR` and the data port changes (R109). -/
theorem ticks_cycle (at32 : x.block.phase = 32) (room : x.block.fifo.length < x.block.params.fifoDepth) :
    ∃ y : ClosedLoop, ClosedLoop.ticks 34 x = some y ∧
      y.block = { x.block with
        sr := shiftedIn (lineAt x) x.block.sr 16
        fifo := x.block.fifo ++ [shiftedIn (lineAt x) x.block.sr 16]
        data := lineAt x 33 } := by
  have at31 : cyclePhase 33 = 31 := by decide
  obtain ⟨data, run⟩ := ticks_loopAt enabled at32 (Nat.le_refl 33)
  have push : tickEffect { (loopAt x 33 data).block with data := (loopAt x 33 data).data } = _ :=
    (tickEffect_of_push (by exact at31)).trans (strobePush_of_room (by exact at31) (by exact room))
  rw [← at32] at push
  exact ⟨_, ticks_snoc run (tick_eq (by exact enabled) (by exact cyclePhase_legal (Nat.le_refl 33)) push), rfl⟩

end

/-- The two lines as one sample: bit 0 is pad 0's, bit 1 pad 1's (R19). -/
theorem getLsbD_levels (level1 level0 : Bool) :
    (BitVec.ofBool level1 ++ BitVec.ofBool level0).getLsbD 0 = level0 ∧
      (BitVec.ofBool level1 ++ BitVec.ofBool level0).getLsbD 1 = level1 := by
  revert level1 level0; decide

/-- The word of the cycle, published: each controller's contribution at SETTLE `k` stands at bit `2k + p` (R61, R66, R111). -/
theorem getLsbD_not_shiftedIn (x : ClosedLoop) (sr : Word) {k : Nat} (taken : k < 16) :
    (~~~(shiftedIn (lineAt x) sr 16)).getLsbD (2 * k) = contribution x.pad0 k ∧
      (~~~(shiftedIn (lineAt x) sr 16)).getLsbD (2 * k + 1) = contribution x.pad1 k := by
  have sample := shiftedIn_sixteen (lineAt x) sr taken
  have low := getLsbD_of_extractLsb' sample (i := 0) (by decide)
  have high := getLsbD_of_extractLsb' sample (i := 1) (by decide)
  rw [lineAt, (getLsbD_levels _ _).1, line_inCycle] at low
  rw [lineAt, (getLsbD_levels _ _).2, line_inCycle] at high
  rw [Nat.add_zero] at low
  obtain ⟨inWord0, inWord1⟩ : 2 * k < 32 ∧ 2 * k + 1 < 32 := by omega
  simp only [BitVec.getLsbD_not, low, high, inWord0, inWord1, decide_true, Bool.true_and, Bool.not_not, and_self]

/-- Settles O32: the cycle's word, read off bit by bit. -/
theorem cycleReadsControllers : Obligations.CycleReadsControllers := by
  intro x enabled at32 room
  obtain ⟨y, run, block⟩ := ticks_cycle enabled at32 room
  exact ⟨y, _, run, by rw [block], by rw [block, ← at32], by rw [block],
    fun k => getLsbD_not_shiftedIn x x.block.sr k.isLt⟩

theorem contribution_of_button {c : Controller} (width : c.width = 12) {b : Nat} (button : b < 12) :
    contribution c b = c.buttons.getLsbD b := by
  rw [contribution, width, if_pos button]

theorem contribution_of_fill {c : Controller} (width : c.width = 12) {k : Nat} (high : c.fill.getLsbD (12 + k) = true) :
    contribution c (12 + k) = false := by
  rw [contribution, width, if_neg (by omega), high, Bool.not_true]

/-- Twelve-button controllers whose lines idle high contribute the RawState (R61, R65, R214). -/
theorem isRawState_of_contributions {c0 c1 : Controller} {w : Word} (width0 : c0.width = 12) (width1 : c1.width = 12)
    (high : ∀ k : Fin 4, c0.fill.getLsbD (12 + k.val) = true ∧ c1.fill.getLsbD (12 + k.val) = true)
    (bits : ∀ k < 16, w.getLsbD (2 * k) = contribution c0 k ∧ w.getLsbD (2 * k + 1) = contribution c1 k) :
    IsRawState c0.buttons c1.buttons w := by
  refine ⟨fun b => ?_, fun j => ?_⟩
  · rw [← contribution_of_button width0 b.isLt, ← contribution_of_button width1 b.isLt]
    exact bits b (by omega)
  · obtain ⟨high0, high1⟩ := high ⟨j / 2, by omega⟩
    obtain ⟨low, up⟩ := bits (12 + j / 2) (by omega)
    rw [contribution_of_fill width0 high0] at low
    rw [contribution_of_fill width1 high1] at up
    obtain even | odd : 24 + j.val = 2 * (12 + j / 2) ∨ 24 + j.val = 2 * (12 + j / 2) + 1 := by omega
    · rw [even, low]
    · rw [odd, up]

/-- Settles O33: the cycle's word is the only one queued, and TAKE publishes its complement, after ENTER where none is active. -/
theorem cyclePublishesRawState : Obligations.CyclePublishesRawState := by
  intro x enabled at32 empty depth width0 width1 high
  obtain ⟨y, run, block⟩ := ticks_cycle enabled at32 (by rw [empty]; exact depth)
  rw [empty, List.nil_append] at block
  have raw := isRawState_of_contributions width0 width1 high fun k taken => getLsbD_not_shiftedIn x x.block.sr taken
  refine ⟨y, run, fun outside irqEn => ?_, fun inside => ?_⟩
  · obtain ⟨-, enter⟩ := enterSetsPubActive y.block (by simp [block]) (by rw [block]; exact irqEn)
      (by rw [block]; exact outside)
    obtain ⟨t, take, rfl, -⟩ := takePublishesHead { y.block with pubActive := true } _ [] rfl (by rw [block])
    exact ⟨_, _, enter, take, raw⟩
  · obtain ⟨t, take, rfl, -⟩ := takePublishesHead y.block _ [] (by rw [block]; exact inside) (by rw [block])
    exact ⟨_, take, raw⟩

end Sys2Proof.ReferenceControllers
end
